-- ==== Sys2Proof/Word.lean ====
section
/-!
DEFINITION. The words of the block: the widths of 00_scope.md R5 and 30_encoding.md R60, R66.
All quantities are unsigned (R7). Arithmetic that could need mending stands in Sys2Proof/Machine.
-/

namespace Sys2Proof

/-- An instruction record as it enters the block, `w[103:0]` (30_encoding.md R60). -/
abbrev RecordWord := BitVec 104

/-- One trace response on a port `ts_resp[k]`: a 2-bit tag over a record word (30_encoding.md R66). -/
abbrev ResponseWord := BitVec 106

/-- A record's address, `ADDR_W` = 64 bits (00_scope.md R5). It indexes nothing but the predictor. -/
abbrev Addr := BitVec 64

/-- A register id, `REG_W` = 8 bits; 256 names, none special (10_state.md R29). -/
abbrev RegId := BitVec 8

/-- A saturating counter of the pattern history table, `CTR_W` = 2 bits (10_state.md R20). -/
abbrev Counter := BitVec 2

/-- The global history register and a table index, `GHR_W` = `IDX_W` = 12 bits (00_scope.md R5). -/
abbrev History := BitVec 12

end Sys2Proof
end

