-- ==== Sys2Proof/Config.lean ====
section
/-!
DEFINITION. What an instance and its host fix for a run: the arguments of 00_scope.md R5 and the two
named switches of 93_implementation_defined.md U7 and U8. The spec leaves no value free, so nothing
here is opaque.
-/

namespace Sys2Proof

/-- The predictor policy (41_branch_predictor.md R90): exactly these two. -/
inductive Policy where
  | perfect
  | gshare
deriving DecidableEq, Repr

/-- Which hazard sources of one Decode lane are consulted (93_implementation_defined.md U7).
`perLane` is the spec's rule R135 (decision D17); `everyCollision` is the other reading that
43_hazard_detector.md R145 (a) describes. -/
inductive SourcePriority where
  | perLane
  | everyCollision
deriving DecidableEq, Repr

/-- Which colliding producer decides the load-use exception (93_implementation_defined.md U8).
`anyLoad` is the spec's rule R135 (decision D18); `youngestLoad` is the other reading that
43_hazard_detector.md R145 (b) describes. -/
inductive LoadUseReading where
  | anyLoad
  | youngestLoad
deriving DecidableEq, Repr

/-- The configuration (00_scope.md R5, R6): the issue width `N`, the policy and the two forwarding
toggles, and the switches whose defaults are the spec's own rules. No step changes it (log 1). -/
structure Config where
  n : Nat
  policy : Policy
  fwdEx : Bool
  fwdMa : Bool
  sourcePriority : SourcePriority := .perLane
  loadUse : LoadUseReading := .anyLoad
deriving DecidableEq, Repr

/-- The configuration `State.reset` carries (DESIGN CHOICE, unsafe, log 1): the spec makes `N` and
the inputs arguments and gives them no reset value. -/
def Config.atReset : Config := { n := 1, policy := .gshare, fwdEx := true, fwdMa := true }

/-- `PHT_ENTRIES` (00_scope.md R5). -/
def Config.phtEntries : Nat := 4096

/-- `CTR_TAKEN_MIN`: the smallest counter value that predicts TAKEN (00_scope.md R5). -/
def Config.ctrTakenMin : Nat := 2

/-- `CTR_RESET`: the value of every counter after reset (00_scope.md R5, 10_state.md R27). -/
def Config.ctrReset : Counter := 2#2

end Sys2Proof
end

