-- ==== Sys2Proof/Syntax.lean ====
section
/-!
DEFINITION. The instruction records, the block's only instructions (40_record_kinds.md): one
constructor per row of spec/opcode_table.json, all of the one format REC (30_encoding.md R60).
-/

namespace Sys2Proof

/-- A branch direction (30_encoding.md R63). -/
inductive Direction where
  | notTaken
  | taken
deriving DecidableEq, Repr

/-- The fields of a record other than its kind (10_state.md R11). Any combination is legal with any
kind; an id under a clear needed flag, and `brDir` outside CBR, are ignored (30_encoding.md R62,
R63, R67). -/
structure RecordFields where
  addr : Addr
  dest : RegId
  src1 : RegId
  src2 : RegId
  destNeeded : Bool
  src1Needed : Bool
  src2Needed : Bool
  ccRead : Bool
  ccWrite : Bool
  brDir : Direction
deriving DecidableEq, Repr

/-- Every field 0, as in the canonical bubble (10_state.md R14). -/
def RecordFields.zero : RecordFields :=
  { addr := 0, dest := 0, src1 := 0, src2 := 0, destNeeded := false, src1Needed := false,
    src2Needed := false, ccRead := false, ccWrite := false, brDir := .notTaken }

/-- A record: its kind (30_encoding.md R61) with its fields. -/
inductive Instr where
  /-- R81 -/
  | alu (f : RecordFields)
  /-- R82 -/
  | load (f : RecordFields)
  /-- R83 -/
  | store (f : RecordFields)
  /-- R84 -/
  | cbr (f : RecordFields)
  /-- R85 -/
  | other (f : RecordFields)
deriving DecidableEq, Repr

/-- The record's fields, whatever its kind. -/
def Instr.fields : Instr → RecordFields
  | .alu f => f
  | .load f => f
  | .store f => f
  | .cbr f => f
  | .other f => f

/-- The same kind with other fields. -/
def Instr.withFields : Instr → RecordFields → Instr
  | .alu _, f => .alu f
  | .load _, f => .load f
  | .store _, f => .store f
  | .cbr _, f => .cbr f
  | .other _, f => .other f

/-- What a fetch attempt can be answered with (20_memory.md R42, 30_encoding.md R66). -/
inductive Response where
  | record (i : Instr)
  | endOfStream
  | malformed
deriving DecidableEq, Repr

end Sys2Proof
end

