-- ==== Sys2Proof/Decode.lean ====
section
/-!
DEFINITION. The record word (30_encoding.md R60, R61, R67) and the trace response (R66), decoded
and encoded. Decoding is total on any word; a malformed word is refused by the name of what is
wrong with it. There is one length and one format (R68) and no byte order (20_memory.md R44).
-/

namespace Sys2Proof

/-- Why a record word is malformed (30_encoding.md R67). The block reports neither: both are the one
response Malformed (60_exceptions.md R181). -/
inductive DecodeError where
  /-- bit 103 or 102 is set -/
  | reservedBits
  /-- the kind code is 5 to 255 -/
  | unknownKind
deriving DecidableEq, Repr

/-- The kind field of a record word (30_encoding.md R60). -/
def wordKind (w : RecordWord) : BitVec 8 := w.extractLsb' 64 8

/-- The reserved bits 103:102 of a record word (30_encoding.md R60). -/
def wordReserved (w : RecordWord) : BitVec 2 := w.extractLsb' 102 2

/-- The tag of a response word (30_encoding.md R66). -/
def responseTag (r : ResponseWord) : BitVec 2 := r.extractLsb' 104 2

/-- The record word of a response word (30_encoding.md R66). -/
def responseRecord (r : ResponseWord) : RecordWord := r.extractLsb' 0 104

/-- The kind's code (30_encoding.md R61). -/
def Instr.kindCode : Instr → Nat
  | .alu _ => 0
  | .load _ => 1
  | .store _ => 2
  | .cbr _ => 3
  | .other _ => 4

/-- The direction a bit encodes: 1 = TAKEN, 0 = NOT_TAKEN (30_encoding.md R63). -/
def Direction.ofBit (b : Bool) : Direction := if b then .taken else .notTaken

/-- The bit that encodes a direction (30_encoding.md R63). -/
def Direction.bit : Direction → BitVec 1
  | .notTaken => 0#1
  | .taken => 1#1

/-- The fields of a record word at the places of 30_encoding.md R60. -/
def decodeFields (w : RecordWord) : RecordFields :=
  { addr := w.extractLsb' 0 64
    dest := w.extractLsb' 72 8
    src1 := w.extractLsb' 80 8
    src2 := w.extractLsb' 88 8
    destNeeded := w.getLsbD 96
    src1Needed := w.getLsbD 97
    src2Needed := w.getLsbD 98
    ccRead := w.getLsbD 99
    ccWrite := w.getLsbD 100
    brDir := Direction.ofBit (w.getLsbD 101) }

/-- The record of a kind code (30_encoding.md R61). -/
def instrOfKind (kind : Nat) (f : RecordFields) : Except DecodeError Instr :=
  match kind with
  | 0 => .ok (.alu f)
  | 1 => .ok (.load f)
  | 2 => .ok (.store f)
  | 3 => .ok (.cbr f)
  | 4 => .ok (.other f)
  | _ => .error .unknownKind

/-- The record a word stands for (30_encoding.md R60, R61, R67). -/
def decodeRecord (w : RecordWord) : Except DecodeError Instr :=
  if wordReserved w = 0#2 then instrOfKind (wordKind w).toNat (decodeFields w)
  else .error .reservedBits

/-- The response a response word stands for (30_encoding.md R66): tag 3 is treated as Malformed, and
so is a record tag over a malformed word; the word is ignored under every other tag. -/
def decodeResponse (r : ResponseWord) : Response :=
  match (responseTag r).toNat with
  | 0 =>
    match decodeRecord (responseRecord r) with
    | .ok i => .record i
    | .error _ => .malformed
  | 1 => .endOfStream
  | _ => .malformed

/-- The word of a record (30_encoding.md R60, R61), most significant field first. -/
def encode (i : Instr) : RecordWord :=
  0#2 ++ i.fields.brDir.bit ++ BitVec.ofBool i.fields.ccWrite ++ BitVec.ofBool i.fields.ccRead ++
    BitVec.ofBool i.fields.src2Needed ++ BitVec.ofBool i.fields.src1Needed ++
    BitVec.ofBool i.fields.destNeeded ++ i.fields.src2 ++ i.fields.src1 ++ i.fields.dest ++
    BitVec.ofNat 8 i.kindCode ++ i.fields.addr

/-- A response word with this tag over this record word (30_encoding.md R66). -/
def responseWord (tag : BitVec 2) (w : RecordWord) : ResponseWord := tag ++ w

/-- The response word of a response (30_encoding.md R66); the record bits are 0 where they are
ignored. -/
def encodeResponse : Response → ResponseWord
  | .record i => responseWord 0#2 (encode i)
  | .endOfStream => responseWord 1#2 0#104
  | .malformed => responseWord 2#2 0#104

/-- The record the decoder reads from the low `nbits` bits of `w`, bits above them 0, numbered as
spec/opcode_table.json numbers them. A record is one word, so the table's bit k is the record
word's bit k (30_encoding.md R60). -/
def decodeTableWord (nbits w : Nat) : Option Instr :=
  match decodeRecord (BitVec.ofNat 104 (w % 2 ^ nbits)) with
  | .ok i => some i
  | .error _ => none

end Sys2Proof
end

