-- ==== Sys2Proof/WellFormed.lean ====
section
/-!
DEFINITION. Which inputs the spec accepts: record words (30_encoding.md R67), response words (R66)
and configurations (00_scope.md R5). A record that is already a term of `Instr` is always well
formed: every field has its width by its type and no combination of flags is illegal (R67).
-/

namespace Sys2Proof

/-- A record word is legal when its kind is at most 4 and its reserved bits are 0, whatever its
other bits (30_encoding.md R67). -/
def wordWellFormed (w : RecordWord) : Bool :=
  decide ((wordKind w).toNat ≤ 4) && decide (wordReserved w = 0#2)

/-- A record is legal whatever its fields (30_encoding.md R67: "no combination of flags is
illegal"): nothing is left for this check to refuse. -/
def Instr.wellFormed (_ : Instr) : Bool := true

/-- A response is a legal one when it is EndOfStream or a legal record; every other response is
Malformed (30_encoding.md R66, R67). -/
def responseWellFormed (r : ResponseWord) : Bool :=
  decide (responseTag r = 1#2) ||
    (decide (responseTag r = 0#2) && wordWellFormed (responseRecord r))

/-- An instance has at least one lane (00_scope.md R5; 93_implementation_defined.md U14). -/
def Config.wellFormed (c : Config) : Bool := decide (1 ≤ c.n)

end Sys2Proof
end

