-- ==== Sys2Proof/Machine/State.lean ====
section
/-!
DEFINITION. The state of the block (10_state.md R10), the environment its step must carry (R23,
R24, R35), why a step can stop, and the state after reset (R27, R201). Plain data throughout.
-/

namespace Sys2Proof.Machine

/-- One lane of one latch (10_state.md R12). `stall` has meaning in the ID latch only. `opId` is a
natural, as R15 allows (log 2). -/
structure Slot where
  record : Instr
  opId : Nat
  valid : Bool
  stall : Bool
  isMispred : Bool
deriving DecidableEq, Repr

/-- The canonical empty slot, `BUBBLE` (10_state.md R14): every field 0. -/
def bubble : Slot :=
  { record := .alu RecordFields.zero, opId := 0, valid := false, stall := false,
    isMispred := false }

/-- The pattern history table (10_state.md R20), 4096 counters of 2 bits: the list of the indices
whose counter differs from the reset value 2, with that counter, in the canonical form
`Pht.wf` (log 9). -/
abbrev Pht := List (Nat × Counter)

/-- The machine: the block's state, exactly the 17 components of 10_state.md R10, and beside it the
environment: the inputs and the trace, which no step writes, and the trace cursor (R23, R35). -/
structure State where
  /-- the configuration, an argument and inputs, not block state (R24; log 1) -/
  cfg : Config
  /-- the reset pin (R35; log 6) -/
  rst : Bool
  /-- the trace `T`, as the response words of 30_encoding.md R66; beyond its end EndOfStream (log 1) -/
  trace : List ResponseWord
  /-- the trace cursor `ts_pos` (R23) -/
  tsPos : Nat
  /-- `latch[FE]` (R13) -/
  latchFe : List Slot
  /-- `latch[ID]` (R13) -/
  latchId : List Slot
  /-- `latch[EX]` (R13) -/
  latchEx : List Slot
  /-- `latch[MA]` (R13) -/
  latchMa : List Slot
  /-- `opid_ctr` (R15) -/
  opidCtr : Nat
  /-- `fetch_stall` (R16) -/
  fetchStall : Bool
  /-- `eos_seen` (R17) -/
  eosSeen : Bool
  /-- `halt_id` (R17) -/
  haltId : Nat
  /-- `halt_id_valid` (R17) -/
  haltIdValid : Bool
  /-- `halt` (R18) -/
  halt : Bool
  /-- `fatal_error` (R19) -/
  fatalError : Bool
  /-- `PHT` (R20) -/
  pht : Pht
  /-- `GHR` (R21) -/
  ghr : History
  /-- `stat_cycles` (R22) -/
  statCycles : Nat
  /-- `stat_retired` (R22) -/
  statRetired : Nat
  /-- `stat_branches` (R22) -/
  statBranches : Nat
  /-- `stat_mispred` (R22) -/
  statMispred : Nat
deriving DecidableEq, Repr

/-- Why a step stops with a fault: never. The block's one error, MalformedRecord, sets state and
transfers no control (00_scope.md R8, 60_exceptions.md R181), and "no hazard/predictor condition is
ever fatal" (R180), so the type has no constructor (log 15). -/
inductive Fault where
deriving DecidableEq, Repr

/-- Why a step is refused. -/
inductive Refusal where
  /-- An arm of `exec` that has no meaning yet. No arm raises it: all five kinds are modelled. Safe. -/
  | notModelled (mnemonic : String)
  /-- Raised by `step` on a configuration of issue width 0, which is no instance of the block
  (93_implementation_defined.md U14: refuse). Safe. -/
  | zeroIssueWidth
deriving DecidableEq, Repr

/-- The state after a reset edge of an instance with this configuration and this trace, the pin
released (10_state.md R27, 70_reset_and_hazards.md R200 to R202). -/
def State.resetWith (cfg : Config) (trace : List ResponseWord) : State :=
  { cfg := cfg
    rst := false
    trace := trace
    tsPos := 0
    latchFe := List.replicate cfg.n bubble
    latchId := List.replicate cfg.n bubble
    latchEx := List.replicate cfg.n bubble
    latchMa := List.replicate cfg.n bubble
    opidCtr := 0
    fetchStall := false
    eosSeen := false
    haltId := 0
    haltIdValid := false
    halt := false
    fatalError := false
    pht := []
    ghr := 0#12
    statCycles := 0
    statRetired := 0
    statBranches := 0
    statMispred := 0 }

/-- The machine right after reset (10_state.md R27). The configuration and the empty trace are the
model's (DESIGN CHOICE, unsafe, log 1); every other field is the spec's. -/
def State.reset : State := State.resetWith Config.atReset []

end Sys2Proof.Machine
end

