-- ==== Sys2Proof/Machine/Operands.lean ====
section
/-!
DEFINITION. The operand forms of a record (30_encoding.md R62): three optional register names. There
are no immediates and no addressing modes, and an id names a register, it never reads one
(10_state.md R29). The condition codes stand in Flags.lean.
-/

namespace Sys2Proof.Machine

/-- An operand of id `id` under the needed flag `needed`: it exists only when the flag is set, and
then names register `id` (30_encoding.md R62). -/
def operand (needed : Bool) (id : RegId) : Option RegId := if needed then some id else none

/-- Source operand 1 of a record (30_encoding.md R62). -/
def src1Operand (f : RecordFields) : Option RegId := operand f.src1Needed f.src1

/-- Source operand 2 of a record (30_encoding.md R62). -/
def src2Operand (f : RecordFields) : Option RegId := operand f.src2Needed f.src2

/-- The destination operand of a record (30_encoding.md R62). -/
def destOperand (f : RecordFields) : Option RegId := operand f.destNeeded f.dest

/-- A source and a destination name the same register: both exist and their ids are equal
(43_hazard_detector.md R131). No id is exempt (10_state.md R29). -/
def sameRegister (source destination : Option RegId) : Bool :=
  match source, destination with
  | some r, some d => decide (r = d)
  | none, _ => false
  | _, none => false

/-- Load-use producer in Execute (40_record_kinds.md R87): LOAD only. -/
def isLoad : Instr → Bool
  | .load _ => true
  | .alu _ => false
  | .store _ => false
  | .cbr _ => false
  | .other _ => false

/-- Predicted at fetch under GSHARE (40_record_kinds.md R87): CBR only. -/
def isCbr : Instr → Bool
  | .cbr _ => true
  | .alu _ => false
  | .load _ => false
  | .store _ => false
  | .other _ => false

end Sys2Proof.Machine
end

