-- ==== Sys2Proof/Machine/Flags.lean ====
section
/-!
DEFINITION. The condition codes: one unnamed resource a record may read and may write (30_encoding.md
R62). The block holds no condition-code value and computes no flag (10_state.md R31); only the
overlap below exists.
-/

namespace Sys2Proof.Machine

/-- The consumer reads the condition codes and the producer writes them (43_hazard_detector.md
R131). -/
def ccOverlap (consumer producer : RecordFields) : Bool := consumer.ccRead && producer.ccWrite

end Sys2Proof.Machine
end

