-- ==== Sys2Proof/Machine/Ops.lean ====
section
/-!
DEFINITION. The named operations over the storage arrays and the engine scalars: the pattern history
table (20_memory.md R40, R46), the trace stream (R42), the lanes of Fetch, the end of the trace,
taking MalformedRecord (60_exceptions.md R181), and reset (70_reset_and_hazards.md R200). There is no
return from the error (60_exceptions.md R188): only reset clears it.
-/

namespace Sys2Proof.Machine

/-- `PHT[idx]`: one whole counter; an unlisted index holds the reset value (10_state.md R27). -/
def Pht.read : Pht → Nat → Counter
  | [], _ => Config.ctrReset
  | (k, c) :: t, idx => if k = idx then c else Pht.read t idx

/-- `PHT[idx] <- v`, keeping the canonical form: writing the reset value unlists the index. -/
def Pht.write : Pht → Nat → Counter → Pht
  | [], idx, v => if v = Config.ctrReset then [] else [(idx, v)]
  | (k, c) :: t, idx, v =>
    if idx < k then
      if v = Config.ctrReset then (k, c) :: t else (idx, v) :: (k, c) :: t
    else if idx = k then
      if v = Config.ctrReset then t else (idx, v) :: t
    else (k, c) :: Pht.write t idx v

/-- Every listed index is above `low` and rising, inside the table, and holds no reset value. -/
def Pht.wfAbove : Nat → Pht → Bool
  | _, [] => true
  | low, (k, c) :: t =>
    decide (low ≤ k) && decide (k < Config.phtEntries) && decide (c ≠ Config.ctrReset) &&
      Pht.wfAbove (k + 1) t

/-- The canonical form of the table: indices strictly rising and below 4096 (20_memory.md R41), no
entry equal to what an unlisted index reads as. Equal tables are then equal lists (log 9). -/
def Pht.wf (p : Pht) : Bool := Pht.wfAbove 0 p

/-- The response at a position of the trace; beyond its end EndOfStream (20_memory.md R42). -/
def responseAt (responses : List ResponseWord) (pos : Nat) : Response :=
  match responses[pos]? with
  | some r => decodeResponse r
  | none => .endOfStream

/-- The answer `next()` gives now (20_memory.md R42). -/
def State.nextResponse (s : State) : Response := responseAt s.trace s.tsPos

/-- The cursor after a record was handed out; no other answer moves it (20_memory.md R42). -/
def State.advance (s : State) : State := { s with tsPos := s.tsPos + 1 }

/-- A trace with `r` at position `pos`; earlier missing positions hold EndOfStream. -/
def putResponse : List ResponseWord → Nat → ResponseWord → List ResponseWord
  | [], 0, r => [r]
  | _ :: t, 0, r => r :: t
  | [], pos + 1, r => encodeResponse .endOfStream :: putResponse [] pos r
  | x :: t, pos + 1, r => x :: putResponse t pos r

/-- The slot a latch holds at a lane. -/
def slotAt (latch : List Slot) (l : Nat) : Slot := latch.getD l bubble

/-- The lane Fetch is filling, the local `l` of 44_fetch_branch_resolution.md R170: lanes are filled in
order, so it is the number of lanes this tick has written (log 3). -/
def State.lane (s : State) : Nat := s.latchFe.length

/-- Fetch starts at lane 0: no lane of the new Fetch latch is written yet
(44_fetch_branch_resolution.md R160). -/
def State.firstLane (s : State) : State := { s with latchFe := [] }

/-- `latch[FE][l] <- x` for the lane being filled (44_fetch_branch_resolution.md R170). -/
def State.fillLane (s : State) (x : Slot) : State := { s with latchFe := s.latchFe ++ [x] }

/-- The end of the trace was met: `eos_seen`, `halt_id`, `halt_id_valid`
(44_fetch_branch_resolution.md R164). -/
def State.recordEnd (s : State) : State :=
  { s with eosSeen := true, haltId := s.opidCtr, haltIdValid := true }

/-- TAKING THE ONE EXCEPTION: `raise MalformedRecord` (60_exceptions.md R181). It sets `fatal_error`
and records the end as for EndOfStream; no control transfer, nothing saved, no flush (R187). -/
def State.raiseMalformed (s : State) : State :=
  { s.recordEnd with fatalError := true }

/-- A reset edge (70_reset_and_hazards.md R200, R202): every state element takes its reset value and
the environment's cursor returns to 0. The pins, the configuration and the trace are the host's and
stay. -/
def State.resetEdge (s : State) : State :=
  { State.resetWith s.cfg s.trace with rst := s.rst }

end Sys2Proof.Machine
end

