-- ==== Sys2Proof/Machine/Predictor.lean ====
section
/-!
DEFINITION. The branch predictor state machine (41_branch_predictor.md).
-/

namespace Sys2Proof.Machine

/-- The index function (41_branch_predictor.md R91): `(addr XOR zext_64(GHR)) AND 0xFFF`. -/
def phtIndex (addr : Addr) (ghr : History) : Nat :=
  ((addr ^^^ ghr.setWidth 64) &&& 0xFFF#64).toNat

/-- Saturating increment (41_branch_predictor.md R94): `min(c + 1, 3)`. -/
def satInc (c : Counter) : Counter := BitVec.ofNat 2 (min (c.toNat + 1) 3)

/-- Saturating decrement (41_branch_predictor.md R95): `max(c - 1, 0)`. -/
def satDec (c : Counter) : Counter := BitVec.ofNat 2 (c.toNat - 1)

/-- A counter predicts TAKEN from 2 up (41_branch_predictor.md R92, 30_encoding.md R65). -/
def counterDirection (c : Counter) : Direction :=
  if Config.ctrTakenMin ≤ c.toNat then .taken else .notTaken

/-- The counter moves toward the actual outcome (41_branch_predictor.md R97). -/
def trainCounter (actual : Direction) (c : Counter) : Counter :=
  match actual with
  | .taken => satInc c
  | .notTaken => satDec c

/-- The history takes the actual outcome in bit 0; bit 11 is lost (41_branch_predictor.md R98). -/
def shiftHistory (ghr : History) (actual : Direction) : History :=
  (ghr <<< 1) ||| actual.bit.setWidth 12

/-- `predict(addr)` (41_branch_predictor.md R92): no side effect. Under PERFECT the port answers the
`actual` presented with the request (R93, decision D26, log 12). -/
def State.predict (s : State) (addr : Addr) (actual : Direction) : Direction :=
  match s.cfg.policy with
  | .gshare => counterDirection (s.pht.read (phtIndex addr s.ghr))
  | .perfect => actual

/-- `update`, the part common to both policies (41_branch_predictor.md R96). -/
def State.countBranch (s : State) (prediction actual : Direction) : State :=
  { s with
    statBranches := s.statBranches + 1
    statMispred := if prediction = actual then s.statMispred else s.statMispred + 1 }

/-- `update` under GSHARE, step 1 then step 2 (41_branch_predictor.md R97, R98): the counter at the
index formed with the old history, then the history. -/
def State.trainGshare (s : State) (addr : Addr) (actual : Direction) : State :=
  let idx := phtIndex addr s.ghr
  { s with
    pht := s.pht.write idx (trainCounter actual (s.pht.read idx))
    ghr := shiftHistory s.ghr actual }

/-- `update(addr, prediction, actual)` (41_branch_predictor.md R96 to R99): under PERFECT only the
counters are touched. -/
def State.update (s : State) (addr : Addr) (prediction actual : Direction) : State :=
  match s.cfg.policy with
  | .gshare => (s.countBranch prediction actual).trainGshare addr actual
  | .perfect => s.countBranch prediction actual

/-- The sub-block's one request port (41_branch_predictor.md R101): the prediction, and the state
after the update. -/
def State.predictorRequest (s : State) (addr : Addr) (actual : Direction) : Direction × State :=
  (s.predict addr actual, s.update addr (s.predict addr actual) actual)

end Sys2Proof.Machine
end

