-- ==== Sys2Proof/Machine/Records.lean ====
section
/-!
DEFINITION. The meaning of the five record kinds (40_record_kinds.md R81 to R85): what Fetch does with
a record it has pulled, for the lane it is filling (44_fetch_branch_resolution.md R165, R166). The
rest of a record's path (R80) is the stages' work on every slot; LOAD's load-use rule (R82) is read
from the slot's record by the arbiter (log 4). No kind reads or writes a value (R80).
-/

namespace Sys2Proof.Machine

/-- A pulled record becomes a slot of the Fetch latch (44_fetch_branch_resolution.md R165): the next
`op_id`, valid, not stalled. -/
def State.placeRecord (s : State) (i : Instr) (isMispred : Bool) : State :=
  { s with opidCtr := s.opidCtr + 1 }.fillLane
    { record := i, opId := s.opidCtr + 1, valid := true, stall := false, isMispred := isMispred }

/-- `ALU`: the common path and nothing else (40_record_kinds.md R81). -/
def execAlu (f : RecordFields) (s : State) : Host.Outcome State Fault Refusal :=
  .next (s.placeRecord (.alu f) false)

/-- `LOAD`: the common path at fetch (40_record_kinds.md R82); its load-use rule acts when the slot
stands in Execute (`loadUse`). -/
def execLoad (f : RecordFields) (s : State) : Host.Outcome State Fault Refusal :=
  .next (s.placeRecord (.load f) false)

/-- `STORE`: the common path and nothing else (40_record_kinds.md R83). -/
def execStore (f : RecordFields) (s : State) : Host.Outcome State Fault Refusal :=
  .next (s.placeRecord (.store f) false)

/-- Branch resolution at fetch (44_fetch_branch_resolution.md R166): predict, compare, update, and
raise the fetch-stall on a misprediction. The Boolean says whether the branch was mispredicted. -/
def State.resolveBranch (s : State) (f : RecordFields) : Bool × State :=
  let p := s.predict f.addr f.brDir
  let mispredicted := decide (p ≠ f.brDir)
  let trained := s.update f.addr p f.brDir
  (mispredicted, { trained with fetchStall := trained.fetchStall || mispredicted })

/-- `CBR` (40_record_kinds.md R84): under GSHARE the branch is resolved before its slot is written;
under PERFECT the predictor is not called and it is timed like an ALU. -/
def execCbr (f : RecordFields) (s : State) : Host.Outcome State Fault Refusal :=
  match s.cfg.policy with
  | .gshare => .next ((s.resolveBranch f).2.placeRecord (.cbr f) (s.resolveBranch f).1)
  | .perfect => .next (s.placeRecord (.cbr f) false)

/-- `OTHER`: the common path and nothing else (40_record_kinds.md R85). -/
def execOther (f : RecordFields) (s : State) : Host.Outcome State Fault Refusal :=
  .next (s.placeRecord (.other f) false)

end Sys2Proof.Machine
end

