-- ==== Sys2Proof/Machine/Dispatch.lean ====
section
/-!
DEFINITION. Dispatch: one arm per record kind.
-/

namespace Sys2Proof.Machine

def exec (i : Instr) (s : State) : Host.Outcome State Fault Refusal :=
  match i with
  | .alu f => Sys2Proof.Machine.execAlu f s
  | .load f => Sys2Proof.Machine.execLoad f s
  | .store f => Sys2Proof.Machine.execStore f s
  | .cbr f => Sys2Proof.Machine.execCbr f s
  | .other f => Sys2Proof.Machine.execOther f s

end Sys2Proof.Machine
end

