-- ==== Sys2Proof/Machine/Hazard.lean ====
section
/-!
DEFINITION. The hazard detector and the forwarding and stall arbiter (43_hazard_detector.md): pure
functions of the latch contents and the configuration (R141).
-/

namespace Sys2Proof.Machine

/-- `collide(c, p)`: the producer writes something the consumer reads (43_hazard_detector.md R131). -/
def collide (c p : Slot) : Bool :=
  ccOverlap c.record.fields p.record.fields ||
    sameRegister (src1Operand c.record.fields) (destOperand p.record.fields) ||
    sameRegister (src2Operand c.record.fields) (destOperand p.record.fields)

/-- ID-source hazard of the lane holding `c` (43_hazard_detector.md R132). The strict `op_id` test
excludes the lane itself, so no lane number is compared. -/
def idHazard (latchId : List Slot) (c : Slot) : Bool :=
  latchId.any fun p => p.valid && decide (p.opId < c.opId) && collide c p

/-- The colliding producers of a later latch, `C_EX(i)` or `C_MA(i)` (43_hazard_detector.md R133,
R134). -/
def colliders (latch : List Slot) (c : Slot) : List Slot :=
  latch.filter fun p => p.valid && decide (p.opId ≤ c.opId) && collide c p

/-- EX-source or MA-source hazard: some producer collides (43_hazard_detector.md R133, R134). -/
def laterHazard (latch : List Slot) (c : Slot) : Bool := !(colliders latch c).isEmpty

/-- The youngest slot of a list, the one of largest `op_id`. -/
def youngest : List Slot → Option Slot
  | [] => none
  | p :: t =>
    match youngest t with
    | none => some p
    | some q => if q.opId ≤ p.opId then some p else some q

/-- The load-use exception (43_hazard_detector.md R135): some colliding producer in Execute is a LOAD
(decision D18). The other reading, the youngest collider is a LOAD, is the switch of
93_implementation_defined.md U8 (log 11). -/
def loadUse (reading : LoadUseReading) (producers : List Slot) : Bool :=
  match reading with
  | .anyLoad => producers.any fun p => isLoad p.record
  | .youngestLoad =>
    match youngest producers with
    | none => false
    | some p => isLoad p.record

/-- An EX-source hazard of `c` is not waived (43_hazard_detector.md R135, EX arm). -/
def exUnresolved (cfg : Config) (latchEx : List Slot) (c : Slot) : Bool :=
  !cfg.fwdEx || loadUse cfg.loadUse (colliders latchEx c)

/-- The hazard source selected for a lane (43_hazard_detector.md R135). -/
inductive HazardSource where
  | decode
  | execute
  | memory
  | none
deriving DecidableEq, Repr

/-- One source is selected for the whole lane, the first that holds in the order ID, EX, MA
(43_hazard_detector.md R135). -/
def selectSource (latchId latchEx latchMa : List Slot) (c : Slot) : HazardSource :=
  if idHazard latchId c then .decode
  else if laterHazard latchEx c then .execute
  else if laterHazard latchMa c then .memory
  else .none

/-- `pre_stall` of a lane (43_hazard_detector.md R135, R136): the selected source alone decides
(decision D17). The other reading, every unresolved collision stalls, is the switch of
93_implementation_defined.md U7 (log 10). An invalid lane has none. -/
def preStall (cfg : Config) (latchId latchEx latchMa : List Slot) (c : Slot) : Bool :=
  c.valid &&
    match cfg.sourcePriority with
    | .perLane =>
      match selectSource latchId latchEx latchMa c with
      | .decode => true
      | .execute => exUnresolved cfg latchEx c
      | .memory => !cfg.fwdMa
      | .none => false
    | .everyCollision =>
      idHazard latchId c || (laterHazard latchEx c && exUnresolved cfg latchEx c) ||
        (laterHazard latchMa c && !cfg.fwdMa)

/-- The final stall flag of a lane after the in-order propagation (43_hazard_detector.md R138, R139):
a valid lane stalls by its own hazard or behind an older valid lane that does. -/
def stallOf (cfg : Config) (latchId latchEx latchMa : List Slot) (c : Slot) : Bool :=
  c.valid &&
    (preStall cfg latchId latchEx latchMa c ||
      latchId.any fun j =>
        j.valid && decide (j.opId < c.opId) && preStall cfg latchId latchEx latchMa j)

/-- The HazardResolver as a function (43_hazard_detector.md R141): one stall flag a Decode lane. -/
def stallVector (cfg : Config) (latchId latchEx latchMa : List Slot) : List Bool :=
  latchId.map (stallOf cfg latchId latchEx latchMa)

end Sys2Proof.Machine
end

