-- ==== Sys2Proof/Machine/Stages.lean ====
section
/-!
DEFINITION. The four stage steps of a tick before Fetch (42_pipeline_tick.md R111 to R116,
43_hazard_detector.md R143), in the order they run.
-/

namespace Sys2Proof.Machine

/-- `stat_cycles <- stat_cycles + 1` (42_pipeline_tick.md R111). -/
def State.countCycle (s : State) : State := { s with statCycles := s.statCycles + 1 }

/-- Write-Back of one lane (42_pipeline_tick.md R112, R113, R114). A bubble does nothing. -/
def State.retire (s : State) (x : Slot) : State :=
  if x.valid then
    { s with
      statRetired := s.statRetired + 1
      fetchStall := if x.isMispred then false else s.fetchStall
      halt := s.halt || (s.haltIdValid && decide (x.opId = s.haltId)) }
  else s

/-- Write-Back (42_pipeline_tick.md R112): every lane of the Memory latch, which it does not change. -/
def State.writeBack (s : State) : State := s.latchMa.foldl State.retire s

/-- Memory (42_pipeline_tick.md R115): a pass-through copy of Execute into Memory. -/
def State.memory (s : State) : State := { s with latchMa := s.latchEx }

/-- What Execute makes of one Decode slot (42_pipeline_tick.md R116): a stalled or invalid slot becomes
a bubble. -/
def executeSlot (d : Slot) : Slot :=
  if d.valid && !d.stall then { d with stall := false } else bubble

/-- Execute (42_pipeline_tick.md R116). -/
def State.execute (s : State) : State := { s with latchEx := s.latchId.map executeSlot }

/-- Decode step 1 (43_hazard_detector.md R130): the Fetch latch, every stall flag 0. -/
def decodeCopy (latchFe : List Slot) : List Slot :=
  latchFe.map fun x => { x with stall := false }

/-- Decode steps 2 to 4 (43_hazard_detector.md R143): the copied slots with their stall flags. -/
def decodeLatch (cfg : Config) (copied latchEx latchMa : List Slot) : List Slot :=
  copied.map fun c => { c with stall := stallOf cfg copied latchEx latchMa c }

/-- Decode, whole (43_hazard_detector.md R143). -/
def State.decode (s : State) : State :=
  { s with latchId := decodeLatch s.cfg (decodeCopy s.latchFe) s.latchEx s.latchMa }

/-- A tick up to Fetch (42_pipeline_tick.md R110): the cycle counter, then Write-Back, Memory,
Execute, Decode. -/
def State.beforeFetch (s : State) : State := s.countCycle.writeBack.memory.execute.decode

end Sys2Proof.Machine
end

