-- ==== Sys2Proof/Machine/Fetch.lean ====
section
/-!
DEFINITION. Fetch (44_fetch_branch_resolution.md R170), the whole tick (42_pipeline_tick.md R110), one
rising edge of the clock (10_state.md R35, 70_reset_and_hazards.md R200), and loading a word where
the next fetch reads it.
-/

namespace Sys2Proof.Machine

/-- Go on with the next state, or stop as the first part stopped. -/
def andThen (o : Host.Outcome State Fault Refusal)
    (k : State → Host.Outcome State Fault Refusal) : Host.Outcome State Fault Refusal :=
  match o with
  | .next s => k s
  | .fault r => .fault r
  | .refused r => .refused r

/-- The Decode lane at the Fetch lane being filled is stalled (44_fetch_branch_resolution.md R161). -/
def State.laneStalled (s : State) : Bool := (slotAt s.latchId s.lane).stall

/-- A fetch attempt (44_fetch_branch_resolution.md R164): pull a record and run it, or record the end
of the trace, or take MalformedRecord (60_exceptions.md R181). -/
def State.fetchAttempt (s : State) : Host.Outcome State Fault Refusal :=
  match s.nextResponse with
  | .record i => exec i s.advance
  | .endOfStream => .next (s.recordEnd.fillLane bubble)
  | .malformed => .next (s.raiseMalformed.fillLane bubble)

/-- Fetch of one lane: the first of the four cases that applies (44_fetch_branch_resolution.md R160 to
R164): hold, blocked by a misprediction, trace over, attempt. A held lane keeps the slot it has in
`old`, the Fetch latch as the tick found it. -/
def State.fetchLane (old : List Slot) (s : State) : Host.Outcome State Fault Refusal :=
  if s.laneStalled then .next (s.fillLane (slotAt old s.lane))
  else if s.fetchStall then .next (s.fillLane bubble)
  else if s.eosSeen then .next (s.fillLane bubble)
  else s.fetchAttempt

/-- Fetch of the next `lanes` lanes, one after the other (44_fetch_branch_resolution.md R160). -/
def fetchLanes (old : List Slot) : Nat → State → Host.Outcome State Fault Refusal
  | 0, s => .next s
  | lanes + 1, s => andThen (s.fetchLane old) (fetchLanes old lanes)

/-- Fetch, whole (44_fetch_branch_resolution.md R170): lanes 0 to N-1 of the new Fetch latch. -/
def State.fetch (s : State) : Host.Outcome State Fault Refusal :=
  fetchLanes s.latchFe s.cfg.n s.firstLane

/-- One tick (42_pipeline_tick.md R110). -/
def State.tick (s : State) : Host.Outcome State Fault Refusal := s.beforeFetch.fetch

/-- One rising edge of `clk`: reset has priority over everything (70_reset_and_hazards.md R200), a
halted block holds (42_pipeline_tick.md R119), else a tick. A configuration of width 0 is no
instance (93_implementation_defined.md U14, log 7). -/
def State.edge (s : State) : Host.Outcome State Fault Refusal :=
  if s.cfg.n = 0 then .refused .zeroIssueWidth
  else if s.rst then .next s.resetEdge
  else if s.halt then .next s
  else s.tick

/-- The trace with this record word as the next response, and every gate before a fetch attempt of
lane 0 open: reset released, not halted, no fetch-stall, the end of the trace not yet recorded, the
Fetch latch empty so that no Decode lane stalls (log 5). -/
def State.loadNext (s : State) (w : RecordWord) : State :=
  { s with
    rst := false
    halt := false
    fetchStall := false
    eosSeen := false
    haltIdValid := false
    latchFe := s.latchFe.map fun _ => bubble
    trace := putResponse s.trace s.tsPos (responseWord 0#2 w) }

end Sys2Proof.Machine
end

