-- ==== Sys2Proof/Machine/Step.lean ====
section
/-!
DEFINITION. One step: one rising edge of the clock (42_pipeline_tick.md R110, log 6).
-/

namespace Sys2Proof.Machine

/-- One step is one rising edge of `clk` (10_state.md R35). -/
def step (s : State) : Host.Outcome State Fault Refusal := s.edge

/-- `s` with the record word made of the low `nbits` bits of `w` where the next fetch attempt reads it,
and with what that attempt needs to be made (log 5). From `State.reset` only the trace changes. -/
def State.withFetchWord (s : State) (nbits w : Nat) : State :=
  s.loadNext (BitVec.ofNat 104 (w % 2 ^ nbits))

end Sys2Proof.Machine
end

