-- ==== Sys2Proof/Machine/Ports.lean ====
section
/-!
DEFINITION. The pins and ports of the block (10_state.md R32, R34, R35): the codes of the
configuration inputs (30_encoding.md R64), the trace window, the consumed count, and the outputs.
They are read off the state; none of them is state.
-/

namespace Sys2Proof.Machine

/-- The code of `cfg_policy` (30_encoding.md R64): 0 = PERFECT, 1 = GSHARE. -/
def policyCode : Policy → BitVec 1
  | .perfect => 0#1
  | .gshare => 1#1

/-- The configuration that the input pins of an instance of width `n` show (30_encoding.md R64), the
named switches at the spec's own rules. -/
def configOfPins (n : Nat) (policy fwdEx fwdMa : BitVec 1) : Config :=
  { n := n
    policy := if policy = 0#1 then .perfect else .gshare
    fwdEx := decide (fwdEx = 1#1)
    fwdMa := decide (fwdMa = 1#1) }

/-- The six outputs the host sees (10_state.md R32), driven from the state at all times (decision
D38). The counters' ports are 64 bits wide (R22; log 2). -/
structure Outputs where
  halt : Bool
  fatalError : Bool
  statCycles : BitVec 64
  statRetired : BitVec 64
  statBranches : BitVec 64
  statMispred : BitVec 64
deriving DecidableEq, Repr

/-- What the reporting surface shows (10_state.md R32, 30_encoding.md R70). -/
def State.outputs (s : State) : Outputs :=
  { halt := s.halt
    fatalError := s.fatalError
    statCycles := BitVec.ofNat 64 s.statCycles
    statRetired := BitVec.ofNat 64 s.statRetired
    statBranches := BitVec.ofNat 64 s.statBranches
    statMispred := BitVec.ofNat 64 s.statMispred }

/-- The window `ts_resp[0..N-1]` (10_state.md R35, 44_fetch_branch_resolution.md R171): the next N
responses, EndOfStream beyond the end of the trace. -/
def State.tsWindow (s : State) : List ResponseWord :=
  (List.range s.cfg.n).map fun k => s.trace.getD (s.tsPos + k) (encodeResponse .endOfStream)

/-- `ts_pop` on the coming edge (10_state.md R35, 44_fetch_branch_resolution.md R171): how many records
it consumes; 0 on an edge that runs no tick. -/
def State.tsPop (s : State) : Nat :=
  match s.edge with
  | .next t => t.tsPos - s.tsPos
  | .fault _ => 0
  | .refused _ => 0

end Sys2Proof.Machine
end

