-- ==== Sys2Proof/Machine/Rtl.lean ====
section
/-!
DEFINITION. The register-transfer form of the tick (42_pipeline_tick.md R118): every next value as a
function of the values before the edge. The sequential form of Fetch.lean is the normative one; that
the two agree is a statement.
-/

namespace Sys2Proof.Machine

/-- The state elements that `FetchChain` threads from lane to lane (42_pipeline_tick.md R118). -/
structure ChainState where
  opidCtr : Nat
  fetchStall : Bool
  eosSeen : Bool
  haltId : Nat
  haltIdValid : Bool
  fatalError : Bool
  pht : Pht
  ghr : History
  statBranches : Nat
  statMispred : Nat
  tsPos : Nat
deriving DecidableEq, Repr

/-- The slot a pulled record becomes and the chain after it (44_fetch_branch_resolution.md R165, R166). -/
def chainRecord (policy : Policy) (i : Instr) (c : ChainState) : Slot × ChainState :=
  let pulled := { c with opidCtr := c.opidCtr + 1, tsPos := c.tsPos + 1 }
  let slot (mispredicted : Bool) : Slot :=
    { record := i, opId := c.opidCtr + 1, valid := true, stall := false, isMispred := mispredicted }
  if isCbr i && decide (policy = .gshare) then
    let idx := phtIndex i.fields.addr c.ghr
    let actual := i.fields.brDir
    let mispredicted := decide (counterDirection (c.pht.read idx) ≠ actual)
    (slot mispredicted,
      { pulled with
        fetchStall := mispredicted || c.fetchStall
        pht := c.pht.write idx (trainCounter actual (c.pht.read idx))
        ghr := shiftHistory c.ghr actual
        statBranches := c.statBranches + 1
        statMispred := c.statMispred + mispredicted.toNat })
  else (slot false, pulled)

/-- One lane of `FetchChain`: from the slot `x` of the Fetch latch and the lane's new stall flag
(42_pipeline_tick.md R117, last row). -/
def chainLane (policy : Policy) (responses : List ResponseWord) (x : Slot) (stalled : Bool)
    (c : ChainState) : Slot × ChainState :=
  if stalled then (x, c)
  else if c.fetchStall || c.eosSeen then (bubble, c)
  else
    match responseAt responses c.tsPos with
    | .record i => chainRecord policy i c
    | .endOfStream =>
      (bubble, { c with eosSeen := true, haltId := c.opidCtr, haltIdValid := true })
    | .malformed =>
      (bubble, { c with eosSeen := true, haltId := c.opidCtr, haltIdValid := true,
                        fatalError := true })

/-- `FetchChain` (42_pipeline_tick.md R118): the lanes in order, each after the one before it. -/
def fetchChain (policy : Policy) (responses : List ResponseWord) :
    List Slot → List Bool → ChainState → List Slot × ChainState
  | x :: xs, stalled :: flags, c =>
    let head := chainLane policy responses x stalled c
    let rest := fetchChain policy responses xs flags head.2
    (head.1 :: rest.1, rest.2)
  | xs, _, c => (xs, c)

/-- The chain's values before Fetch, the fetch-stall as Write-Back leaves it (`fs0` of
42_pipeline_tick.md R118). -/
def State.chainStart (s : State) : ChainState :=
  { opidCtr := s.opidCtr
    fetchStall := s.fetchStall && !(s.latchMa.any fun x => x.valid && x.isMispred)
    eosSeen := s.eosSeen
    haltId := s.haltId
    haltIdValid := s.haltIdValid
    fatalError := s.fatalError
    pht := s.pht
    ghr := s.ghr
    statBranches := s.statBranches
    statMispred := s.statMispred
    tsPos := s.tsPos }

/-- The state after the edge (42_pipeline_tick.md R118). Decode compares the old Fetch latch with the
new Execute and Memory latches; Write-Back reads the old Memory latch. -/
def State.rtlTick (s : State) : State :=
  let ex := s.latchId.map executeSlot
  let ma := s.latchEx
  let flags := stallVector s.cfg (decodeCopy s.latchFe) ex ma
  let chain := fetchChain s.cfg.policy s.trace s.latchFe flags s.chainStart
  { s with
    latchMa := ma
    latchEx := ex
    latchId := decodeLatch s.cfg (decodeCopy s.latchFe) ex ma
    latchFe := chain.1
    halt := s.halt ||
      (s.haltIdValid && s.latchMa.any fun x => x.valid && decide (x.opId = s.haltId))
    statRetired := s.statRetired + s.latchMa.countP (fun x => x.valid)
    statCycles := s.statCycles + 1
    opidCtr := chain.2.opidCtr
    fetchStall := chain.2.fetchStall
    eosSeen := chain.2.eosSeen
    haltId := chain.2.haltId
    haltIdValid := chain.2.haltIdValid
    fatalError := chain.2.fatalError
    pht := chain.2.pht
    ghr := chain.2.ghr
    statBranches := chain.2.statBranches
    statMispred := chain.2.statMispred
    tsPos := chain.2.tsPos }

end Sys2Proof.Machine
end

