-- ==== Sys2Proof/Safety.lean ====
section
/-!
DEFINITION. What counts as a safe state and a safe run, in the terms the statements use: the
invariants of 10_state.md R25, the hung states of 70_reset_and_hazards.md R207, and the erasure of the
fields that 93_implementation_defined.md U2 says no rule reads.
-/

namespace Sys2Proof.Machine

/-- The valid slots of a latch. -/
def validSlots (latch : List Slot) : List Slot := latch.filter fun x => x.valid

/-- The valid slots of the Fetch latch that are not the copy of a stalled Decode slot (10_state.md R25
item 6): the records Fetch pulled in the last tick. -/
def State.freshSlots (s : State) : List Slot :=
  validSlots (((s.latchId.zip s.latchFe).filter fun p => !p.1.stall).map fun p => p.2)

/-- Every instruction in the pipeline once: a stalled Decode slot's copy in the Fetch latch is the same
instruction (10_state.md R25 items 1 and 6). -/
def State.inFlight (s : State) : List Slot :=
  validSlots s.latchMa ++ validSlots s.latchEx ++ validSlots s.latchId ++ s.freshSlots

/-- At least one lane, four latches of N lanes (10_state.md R13). -/
abbrev LatchShape (s : State) : Prop :=
  0 < s.cfg.n ∧ s.latchFe.length = s.cfg.n ∧ s.latchId.length = s.cfg.n ∧
    s.latchEx.length = s.cfg.n ∧ s.latchMa.length = s.cfg.n

/-- `stall` is 0 outside the Decode latch (10_state.md R12) and every bubble is the canonical one
(10_state.md R14). -/
abbrev SlotMarks (s : State) : Prop :=
  (∀ x ∈ s.latchFe ++ s.latchEx ++ s.latchMa, x.stall = false) ∧
    ∀ x ∈ s.latchFe ++ s.latchId ++ s.latchEx ++ s.latchMa, x.valid = false → x = bubble

/-- A stalled Decode slot's instruction is still in the Fetch latch at the same lane (10_state.md R25
item 6). -/
abbrev HeldPairs (s : State) : Prop :=
  ∀ p ∈ s.latchId.zip s.latchFe, p.1.stall = true → p.2 = { p.1 with stall := false }

/-- Every slot of the first list is strictly older than every slot of the second. -/
abbrev AllOlder (older younger : List Slot) : Prop :=
  ∀ a ∈ older, ∀ b ∈ younger, a.opId < b.opId

/-- Program order (10_state.md R25 items 1 and 5): unique `op_id`s, older instructions in later latches,
lane order among those fetched together (R13), and every instruction in flight younger than every
retired one and no younger than `opid_ctr` (R15). -/
abbrev ProgramOrder (s : State) : Prop :=
  (s.inFlight.map fun x => x.opId).Nodup ∧
    AllOlder (validSlots s.latchMa) (validSlots s.latchEx ++ validSlots s.latchId ++ s.freshSlots) ∧
    AllOlder (validSlots s.latchEx) (validSlots s.latchId ++ s.freshSlots) ∧
    AllOlder (validSlots s.latchId) s.freshSlots ∧
    s.freshSlots.Pairwise (fun a b => a.opId < b.opId) ∧
    ∀ x ∈ s.inFlight, s.statRetired < x.opId ∧ x.opId ≤ s.opidCtr

/-- The in-order invariant (10_state.md R25 item 7). -/
abbrev InOrderStalls (s : State) : Prop :=
  ∀ a ∈ s.latchId, ∀ b ∈ s.latchId,
    a.valid = true → b.valid = true → a.opId < b.opId → a.stall = true → b.stall = true

/-- At most one outstanding fetch-stall (10_state.md R16, R25 item 4): `fetch_stall` is 1 exactly while a
mispredicted branch is in flight, and that branch is the youngest instruction, a CBR under GSHARE. -/
abbrev FetchStallMark (s : State) : Prop :=
  (s.fetchStall = true ↔ ∃ x ∈ s.inFlight, x.isMispred = true) ∧
    ∀ x ∈ s.inFlight, x.isMispred = true →
      x.opId = s.opidCtr ∧ isCbr x.record = true ∧ s.cfg.policy = .gshare

/-- The end of the trace (10_state.md R17, 60_exceptions.md R181): the two bits go together, the halt id
is the last `op_id` given, and a fatal error is an end. -/
abbrev EndMark (s : State) : Prop :=
  s.haltIdValid = s.eosSeen ∧ (s.eosSeen = true → s.haltId = s.opidCtr) ∧
    (s.fatalError = true → s.eosSeen = true)

/-- Nothing is lost or counted twice (10_state.md R25 items 6, 8 and 9, 44_fetch_branch_resolution.md
R172): what was pulled has retired or is in flight; under PERFECT the predictor state is untouched. -/
abbrev CountsAgree (s : State) : Prop :=
  s.statRetired + s.inFlight.length = s.opidCtr ∧ s.tsPos = s.opidCtr ∧
    s.tsPos ≤ s.trace.length ∧ s.statMispred ≤ s.statBranches ∧ s.statBranches ≤ s.opidCtr ∧
    (s.cfg.policy = .perfect → s.statBranches = 0 ∧ s.pht = [] ∧ s.ghr = 0#12)

/-- A halted block is empty (42_pipeline_tick.md R114). -/
abbrev HaltedEmpty (s : State) : Prop :=
  s.halt = true → s.inFlight = [] ∧ s.eosSeen = true

/-- The invariant of every run from reset (10_state.md R25). -/
abbrev PipelineInv (s : State) : Prop :=
  LatchShape s ∧ SlotMarks s ∧ HeldPairs s ∧ ProgramOrder s ∧ InOrderStalls s ∧
    FetchStallMark s ∧ EndMark s ∧ CountsAgree s ∧ HaltedEmpty s ∧ s.pht.wf = true

/-- No slot of any latch is valid. -/
abbrev PipelineEmpty (s : State) : Prop :=
  ∀ x ∈ s.latchFe ++ s.latchId ++ s.latchEx ++ s.latchMa, x.valid = false

/-- The block ticks (42_pipeline_tick.md R110, R119): an instance, not in reset, not halted. -/
abbrev Ticking (s : State) : Prop := 0 < s.cfg.n ∧ s.rst = false ∧ s.halt = false

/-- A hung block (70_reset_and_hazards.md R207): the end is recorded, the pipeline is empty, and `halt`
is 0. -/
abbrev Hung (s : State) : Prop :=
  Ticking s ∧ s.eosSeen = true ∧ PipelineEmpty s

/-- Some valid Decode slot is the oldest one there and is stalled. -/
abbrev OldestInDecodeStalls (s : State) : Prop :=
  ∃ c ∈ s.latchId, c.valid = true ∧ c.stall = true ∧
    ∀ d ∈ s.latchId, d.valid = true → c.opId ≤ d.opId

/-- The two named switches stand at the spec's own rules (43_hazard_detector.md R135; log 10, log 11). -/
abbrev SpecReadings (cfg : Config) : Prop :=
  cfg.sourcePriority = .perLane ∧ cfg.loadUse = .anyLoad

/-- The ticks a consumer that enters Decode right after its producer is stalled, one lane
(43_hazard_detector.md R146): by the producer being a LOAD and the two forwarding toggles. -/
def adjacentStalls (producerIsLoad fwdEx fwdMa : Bool) : Nat :=
  match producerIsLoad, fwdEx, fwdMa with
  | false, false, false => 2
  | false, true, _ => 0
  | false, false, true => 1
  | true, false, false => 2
  | true, true, true => 1
  | true, true, false => 2
  | true, false, true => 1

/-- A series of `update` calls (41_branch_predictor.md R103): address, prediction, actual outcome. -/
def State.updateAll (s : State) (calls : List (Addr × Direction × Direction)) : State :=
  calls.foldl (fun t c => t.update c.1 c.2.1 c.2.2) s

/-- The actual outcomes of a series of calls read as a binary number, the last in bit 0
(41_branch_predictor.md R103). -/
def outcomesNumber (calls : List (Addr × Direction × Direction)) : Nat :=
  calls.foldl (fun n c => 2 * n + c.2.2.bit.toNat) 0

/-- The fields no rule reads, cleared (93_implementation_defined.md U2): ids under a clear needed flag,
`br_dir` and `addr` outside CBR, and bits 63:12 of `addr`. -/
def eraseFields (branch : Bool) (f : RecordFields) : RecordFields :=
  { f with
    addr := if branch then f.addr &&& 0xFFF#64 else 0
    dest := if f.destNeeded then f.dest else 0
    src1 := if f.src1Needed then f.src1 else 0
    src2 := if f.src2Needed then f.src2 else 0
    brDir := if branch then f.brDir else .notTaken }

/-- A record without the fields no rule reads. -/
def eraseRecord (i : Instr) : Instr := i.withFields (eraseFields (isCbr i) i.fields)

/-- A response word without the bits no rule reads. -/
def eraseResponse (r : ResponseWord) : ResponseWord :=
  encodeResponse
    (match decodeResponse r with
      | .record i => .record (eraseRecord i)
      | .endOfStream => .endOfStream
      | .malformed => .malformed)

/-- A slot without the fields no rule reads: every field of a slot that is not valid, and those of a valid
slot's record (93_implementation_defined.md U2). -/
def eraseSlot (x : Slot) : Slot :=
  if x.valid then { x with record := eraseRecord x.record } else bubble

/-- The machine with every slot of the latches and every response of the trace erased. -/
def State.erase (s : State) : State :=
  { s with
    trace := s.trace.map eraseResponse
    latchFe := s.latchFe.map eraseSlot
    latchId := s.latchId.map eraseSlot
    latchEx := s.latchEx.map eraseSlot
    latchMa := s.latchMa.map eraseSlot }

/-- The records of a trace as response words (30_encoding.md R66). -/
def recordTrace (records : List Instr) : List ResponseWord :=
  records.map fun i => encodeResponse (.record i)

/-- A record that can neither wait for another nor be mispredicted: no source register, no
condition-code read, and not a conditional branch. -/
def independentRecord (i : Instr) : Bool :=
  !i.fields.src1Needed && !i.fields.src2Needed && !i.fields.ccRead && !isCbr i

end Sys2Proof.Machine
end

