-- ==== Sys2Proof/Certificates/Slice0/Obligations.lean ====
section
/-!
DEFINITION. The statements about the model, for the provers. Each docstring names the rules of spec/ it
formalises; a statement that rests on a choice of the model names the log entry.
-/

open Sys2Proof Sys2Proof.Machine

/-! Encoding (30_encoding.md). -/

/-- Decode of encode is the record, for every kind and every value of every field (30_encoding.md R60,
R61): no bit of the record word is dropped. -/
def Obligations.DecodeOfEncodeIsTheRecord : Prop :=
  ∀ i : Instr, decodeRecord (encode i) = .ok i

/-- The word a record was read from is the word of that record (30_encoding.md R60): every legal word has
one meaning. -/
def Obligations.EncodeOfDecodeIsTheWord : Prop :=
  ∀ (w : RecordWord) (i : Instr), decodeRecord w = .ok i → encode i = w

/-- Decode of encode for trace responses (30_encoding.md R66). -/
def Obligations.DecodeOfEncodedResponseIsTheResponse : Prop :=
  ∀ r : Response, decodeResponse (encodeResponse r) = r

/-- 30_encoding.md R67: which words are malformed, that every other word is legal, and that a fetch
attempt that meets a malformed word takes MalformedRecord and puts a bubble in the lane. -/
def Obligations.MalformedWordsAreRefused : Prop :=
  ∀ w : RecordWord,
    ((∃ e, decodeRecord w = .error e) ↔
      (4 < (w.extractLsb' 64 8).toNat ∨ w.getLsbD 103 = true ∨ w.getLsbD 102 = true)) ∧
    ∀ (s : State) (e : DecodeError), decodeRecord w = .error e →
      s.trace[s.tsPos]? = some (0#2 ++ w) →
      s.fetchAttempt =
        .next { s with
          eosSeen := true, haltId := s.opidCtr, haltIdValid := true, fatalError := true
          latchFe := s.latchFe ++ [bubble] }

/-- 30_encoding.md R61: the kind is selected by the masked word, the reserved bits in the mask, and a
word that matches no row is refused. -/
def Obligations.MaskedWordSelectsTheKind : Prop :=
  ∀ w : RecordWord,
    let masked := w &&& 0xc0000000ff0000000000000000#104
    (masked = 0x00000000000000000000000000#104 ↔ ∃ f, decodeRecord w = .ok (.alu f)) ∧
    (masked = 0x00000000010000000000000000#104 ↔ ∃ f, decodeRecord w = .ok (.load f)) ∧
    (masked = 0x00000000020000000000000000#104 ↔ ∃ f, decodeRecord w = .ok (.store f)) ∧
    (masked = 0x00000000030000000000000000#104 ↔ ∃ f, decodeRecord w = .ok (.cbr f)) ∧
    (masked = 0x00000000040000000000000000#104 ↔ ∃ f, decodeRecord w = .ok (.other f)) ∧
    ((∀ k : Fin 5, masked ≠ BitVec.ofNat 104 k.val <<< 64) ↔ ∃ e, decodeRecord w = .error e)

/-- 30_encoding.md R66: the tag of a response, and the record word read under tag 0 only. -/
def Obligations.TagSelectsTheResponse : Prop :=
  ∀ r : ResponseWord,
    decodeResponse r =
      if r.extractLsb' 104 2 = 0#2 then
        (match decodeRecord (r.extractLsb' 0 104) with
          | .ok i => .record i
          | .error _ => .malformed)
      else if r.extractLsb' 104 2 = 1#2 then .endOfStream
      else .malformed

/-- One record word of each kind, written out in 30_encoding.md R69 and 95_test_vectors.md V1, decodes to
the record the spec says. -/
def Obligations.PrintedWordsDecode : Prop :=
  decodeRecord 0x07030201000000000000001000#104 =
    .ok (.alu { addr := 0x1000, dest := 1, src1 := 2, src2 := 3, destNeeded := true,
                src1Needed := true, src2Needed := true, ccRead := false, ccWrite := false,
                brDir := .notTaken }) ∧
  decodeRecord 0x03000501010000000000002000#104 =
    .ok (.load { addr := 0x2000, dest := 1, src1 := 5, src2 := 0, destNeeded := true,
                 src1Needed := true, src2Needed := false, ccRead := false, ccWrite := false,
                 brDir := .notTaken }) ∧
  decodeRecord 0x06050200020000000000002008#104 =
    .ok (.store { addr := 0x2008, dest := 0, src1 := 2, src2 := 5, destNeeded := false,
                  src1Needed := true, src2Needed := true, ccRead := false, ccWrite := false,
                  brDir := .notTaken }) ∧
  decodeRecord 0x22000400030000000000000410#104 =
    .ok (.cbr { addr := 0x410, dest := 0, src1 := 4, src2 := 0, destNeeded := false,
                src1Needed := true, src2Needed := false, ccRead := false, ccWrite := false,
                brDir := .taken }) ∧
  decodeRecord 0x00000000040000000000001008#104 =
    .ok (.other { addr := 0x1008, dest := 0, src1 := 0, src2 := 0, destNeeded := false,
                  src1Needed := false, src2Needed := false, ccRead := false, ccWrite := false,
                  brDir := .notTaken })

/-- 30_encoding.md R64: the codes of the configuration inputs, all eight combinations. -/
def Obligations.PinsCodeTheConfiguration : Prop :=
  policyCode .perfect = 0#1 ∧ policyCode .gshare = 1#1 ∧
    ∀ (n : Nat) (p : Policy) (ex ma : Bool),
      configOfPins n (policyCode p) (BitVec.ofBool ex) (BitVec.ofBool ma) =
        { n := n, policy := p, fwdEx := ex, fwdMa := ma }

/-! Reset, halt, and that every edge answers (70_reset_and_hazards.md, 42_pipeline_tick.md). -/

/-- 10_state.md R27: the value of every piece of state after reset, for every configuration and trace. -/
def Obligations.ResetStateHoldsTheSpecsValues : Prop :=
  ∀ (cfg : Config) (responses : List ResponseWord),
    let s := State.resetWith cfg responses
    (∀ latch ∈ [s.latchFe, s.latchId, s.latchEx, s.latchMa],
      latch.length = cfg.n ∧ ∀ x ∈ latch, x = bubble) ∧
    s.opidCtr = 0 ∧ s.fetchStall = false ∧ s.eosSeen = false ∧ s.haltId = 0 ∧
    s.haltIdValid = false ∧ s.halt = false ∧ s.fatalError = false ∧
    (∀ idx, idx < 4096 → s.pht.read idx = 2#2) ∧ s.ghr = 0#12 ∧
    s.statCycles = 0 ∧ s.statRetired = 0 ∧ s.statBranches = 0 ∧ s.statMispred = 0 ∧ s.tsPos = 0

/-- 70_reset_and_hazards.md R200: at any time, also halted, one edge with `rst = 1` gives the reset state
and runs no tick; the first edge with `rst = 0` runs tick 1. That the pins, the configuration and the
trace stay is the model's reading of who owns them (log 6). -/
def Obligations.ResetEdgeGivesTheResetState : Prop :=
  ∀ s : State, 0 < s.cfg.n → s.rst = true →
    step s = .next { State.resetWith s.cfg s.trace with rst := true } ∧
    ∃ u, step (State.resetWith s.cfg s.trace) = .next u ∧ u.statCycles = 1

/-- 42_pipeline_tick.md R119: with `halt = 1` every state element holds; with `rst = 1` no tick happens
(the edge answers the reset state, whose cycle counter is 0). -/
def Obligations.HaltedBlockHolds : Prop :=
  ∀ s : State, 0 < s.cfg.n →
    (s.rst = false → s.halt = true → step s = .next s) ∧
    (s.rst = true → ∃ t, step s = .next t ∧ t.statCycles = 0)

/-- 42_pipeline_tick.md R111: one cycle a tick, the halting tick included, none while halted or in reset;
so the cycle counter is the number of the tick. -/
def Obligations.EveryTickCountsOneCycle : Prop :=
  (∀ s : State, Ticking s → ∃ t, step s = .next t ∧ t.statCycles = s.statCycles + 1) ∧
  (∀ s : State, 0 < s.cfg.n → s.rst = false → s.halt = true →
    ∃ t, step s = .next t ∧ t.statCycles = s.statCycles) ∧
  (∀ s : State, 0 < s.cfg.n → s.rst = true → ∃ t, step s = .next t ∧ t.statCycles = 0) ∧
  ∀ (cfg : Config) (responses : List ResponseWord) (k : Nat) (s : State), 0 < cfg.n →
    Sys2Proof.core.run k (State.resetWith cfg responses) = .next s → s.halt = false →
    ∃ t, step s = .next t ∧ t.statCycles = k + 1

/-- Nothing inside the pipeline stops the machine (42_pipeline_tick.md R121, 60_exceptions.md R180): every
edge of every instance answers a next state. A configuration of width 0 is refused
(93_implementation_defined.md U14; log 7). -/
def Obligations.EveryEdgeOfAnInstanceAnswers : Prop :=
  ∀ s : State,
    (0 < s.cfg.n → ∃ t, step s = .next t) ∧
    (s.cfg.n = 0 → step s = .refused .zeroIssueWidth)

/-- The inputs and the trace are written by no step (20_memory.md R52, 60_exceptions.md R185). That the
model carries them in its state is its choice (log 1), and so is that a reset edge leaves the pin, the
configuration and the trace as they are (log 6). -/
def Obligations.InputsAndTraceAreNeverWritten : Prop :=
  ∀ s : State, 0 < s.cfg.n →
    ∃ t, step s = .next t ∧ t.cfg = s.cfg ∧ t.trace = s.trace ∧ t.rst = s.rst

/-- 60_exceptions.md R188: the four bits are sticky, only reset clears them, and once `eos_seen = 1` no
fetch attempt is made, so no second malformed response is met. -/
def Obligations.ErrorAndEndBitsAreSticky : Prop :=
  ∀ s : State, 0 < s.cfg.n →
    (s.rst = false → ∃ t, step s = .next t ∧
      (s.fatalError = true → t.fatalError = true) ∧ (s.eosSeen = true → t.eosSeen = true) ∧
      (s.haltIdValid = true → t.haltIdValid = true) ∧ (s.halt = true → t.halt = true) ∧
      (s.eosSeen = true →
        t.tsPos = s.tsPos ∧ t.haltId = s.haltId ∧ t.fatalError = s.fatalError)) ∧
    (s.rst = true → ∃ t, step s = .next t ∧ t.fatalError = false ∧ t.eosSeen = false ∧
      t.haltIdValid = false ∧ t.halt = false)

/-! The records at fetch (40_record_kinds.md, 44_fetch_branch_resolution.md). -/

/-- A step runs the decoded record: where the first lane of a tick is not held and not blocked and the
response at the cursor is a record, the step is `exec` of that record on the state the other stages
leave, with the cursor advanced; the remaining lanes follow. And so at every lane
(44_fetch_branch_resolution.md R164, R165). -/
def Obligations.StepRunsTheDecodedRecord : Prop :=
  (∀ (s : State) (i : Instr), Ticking s → s.nextResponse = .record i →
    s.beforeFetch.firstLane.laneStalled = false → s.beforeFetch.fetchStall = false →
    s.eosSeen = false →
    step s =
      andThen (exec i s.beforeFetch.firstLane.advance) (fetchLanes s.latchFe (s.cfg.n - 1))) ∧
  ∀ (old : List Slot) (s : State) (i : Instr), s.laneStalled = false → s.fetchStall = false →
    s.eosSeen = false → s.nextResponse = .record i → s.fetchLane old = exec i s.advance

/-- ALU, LOAD, STORE and OTHER complete in every state: the record enters the Fetch latch at the lane
being filled, the one behind the lanes already written (log 3), under the next `op_id`, and nothing
else changes (40_record_kinds.md R81, R82, R83, R85;
44_fetch_branch_resolution.md R165). -/
def Obligations.PlainRecordsEnterTheFetchLatch : Prop :=
  ∀ (f : RecordFields) (s : State),
    ∀ i ∈ [Instr.alu f, Instr.load f, Instr.store f, Instr.other f],
      exec i s =
        .next { s with
          opidCtr := s.opidCtr + 1
          latchFe := s.latchFe ++
            [{ record := i, opId := s.opidCtr + 1, valid := true, stall := false,
               isMispred := false }] }

/-- CBR completes in every state (44_fetch_branch_resolution.md R166): under GSHARE it is predicted,
compared, trained and, when mispredicted, raises the fetch-stall; under PERFECT none of it happens.
Nothing else changes but the Fetch latch, which gets the slot (R165). -/
def Obligations.BranchIsResolvedAtFetch : Prop :=
  ∀ (f : RecordFields) (s : State),
    (s.cfg.policy = .gshare →
      let idx := ((f.addr ^^^ s.ghr.setWidth 64) &&& 0xFFF#64).toNat
      let p := if 2 ≤ (s.pht.read idx).toNat then Direction.taken else Direction.notTaken
      exec (.cbr f) s =
        .next { s with
          opidCtr := s.opidCtr + 1
          latchFe := s.latchFe ++
            [{ record := .cbr f, opId := s.opidCtr + 1, valid := true, stall := false,
               isMispred := decide (p ≠ f.brDir) }]
          fetchStall := s.fetchStall || decide (p ≠ f.brDir)
          statBranches := s.statBranches + 1
          statMispred := s.statMispred + (if p = f.brDir then 0 else 1)
          pht := s.pht.write idx
            (if f.brDir = .taken then satInc (s.pht.read idx) else satDec (s.pht.read idx))
          ghr := (s.ghr <<< 1) ||| f.brDir.bit.setWidth 12 }) ∧
    (s.cfg.policy = .perfect →
      exec (.cbr f) s =
        .next { s with
          opidCtr := s.opidCtr + 1
          latchFe := s.latchFe ++
            [{ record := .cbr f, opId := s.opidCtr + 1, valid := true, stall := false,
               isMispred := false }] })

/-- What running any record can write (20_memory.md R54, 44_fetch_branch_resolution.md R165, R166): no
latch but the lane of the Fetch latch it fills, no input, not the end marks, not the error bit, not the
two counters of the other stages; and every counter of a canonical table but the one at the branch's
index reads as before. The canonical form is the model's (log 9). -/
def Obligations.RecordWritesOnlyItsLaneAndThePredictor : Prop :=
  ∀ (i : Instr) (s : State), s.pht.wf = true →
    ∃ t, exec i s = .next t ∧
      t.latchFe.length = s.latchFe.length + 1 ∧
      (∀ l, l ≠ s.lane → t.latchFe[l]? = s.latchFe[l]?) ∧
      t.latchId = s.latchId ∧ t.latchEx = s.latchEx ∧ t.latchMa = s.latchMa ∧
      t.cfg = s.cfg ∧ t.rst = s.rst ∧ t.trace = s.trace ∧ t.tsPos = s.tsPos ∧
      t.eosSeen = s.eosSeen ∧ t.haltId = s.haltId ∧ t.haltIdValid = s.haltIdValid ∧
      t.halt = s.halt ∧ t.fatalError = s.fatalError ∧ t.statCycles = s.statCycles ∧
      t.statRetired = s.statRetired ∧ t.pht.wf = true ∧
      (∀ idx, (s.cfg.policy = .perfect ∨ isCbr i = false ∨
          idx ≠ ((i.fields.addr ^^^ s.ghr.setWidth 64) &&& 0xFFF#64).toNat) →
        t.pht.read idx = s.pht.read idx) ∧
      ((s.cfg.policy = .perfect ∨ isCbr i = false) →
        t.ghr = s.ghr ∧ t.statBranches = s.statBranches ∧ t.statMispred = s.statMispred ∧
        t.fetchStall = s.fetchStall)

/-! Fetch (44_fetch_branch_resolution.md). -/

/-- 44_fetch_branch_resolution.md R161: a stalled lane keeps the slot it has in the Fetch latch the tick
found, even while `fetch_stall = 1` or after the end of the trace; nothing else changes. -/
def Obligations.StalledLaneIsHeld : Prop :=
  ∀ (old : List Slot) (s : State), (slotAt s.latchId s.lane).stall = true →
    s.fetchLane old = .next { s with latchFe := s.latchFe ++ [slotAt old s.lane] }

/-- 44_fetch_branch_resolution.md R162, R163: a lane that is not held gets a bubble while `fetch_stall = 1`,
and once the end was seen; no record is pulled and no `op_id` used. -/
def Obligations.BlockedLaneGetsABubble : Prop :=
  ∀ (old : List Slot) (s : State), (slotAt s.latchId s.lane).stall = false →
    (s.fetchStall = true ∨ s.eosSeen = true) →
    s.fetchLane old = .next { s with latchFe := s.latchFe ++ [bubble] }

/-- 44_fetch_branch_resolution.md R164: the three outcomes of a fetch attempt. -/
def Obligations.FetchAttemptHasThreeOutcomes : Prop :=
  ∀ (old : List Slot) (s : State), (slotAt s.latchId s.lane).stall = false →
    s.fetchStall = false → s.eosSeen = false →
    (∀ i, s.nextResponse = .record i → s.fetchLane old = exec i { s with tsPos := s.tsPos + 1 }) ∧
    (s.nextResponse = .endOfStream →
      s.fetchLane old =
        .next { s with
          eosSeen := true, haltId := s.opidCtr, haltIdValid := true
          latchFe := s.latchFe ++ [bubble] }) ∧
    (s.nextResponse = .malformed →
      s.fetchLane old =
        .next { s with
          eosSeen := true, haltId := s.opidCtr, haltIdValid := true, fatalError := true
          latchFe := s.latchFe ++ [bubble] })

/-- A malformed response taken by a whole tick (60_exceptions.md R181, R187): the four marks are set, the
response is not consumed, no later record of the tick is pulled, and the latches behind Fetch go on as
in any tick. -/
def Obligations.MalformedRecordIsTakenByTheTick : Prop :=
  ∀ s : State, Ticking s → s.nextResponse = .malformed →
    s.beforeFetch.firstLane.laneStalled = false → s.beforeFetch.fetchStall = false →
    s.eosSeen = false →
    ∃ t, step s = .next t ∧ t.fatalError = true ∧ t.eosSeen = true ∧ t.haltIdValid = true ∧
      t.haltId = s.opidCtr ∧ t.opidCtr = s.opidCtr ∧ t.tsPos = s.tsPos ∧
      t.latchMa = s.latchEx ∧ t.latchEx = s.latchId.map executeSlot ∧
      t.latchId = s.beforeFetch.latchId

/-- Inside a fetch group and after it (44_fetch_branch_resolution.md R162, R167): from the lane at which
`fetch_stall` is 1 on, every lane is held or gets a bubble, and nothing but the Fetch latch changes. -/
def Obligations.FetchStallBlocksTheRestOfTheGroup : Prop :=
  ∀ (old : List Slot) (k : Nat) (s : State), s.fetchStall = true →
    fetchLanes old k s =
      .next { s with
        latchFe := s.latchFe ++ (List.range k).map fun j =>
          if (slotAt s.latchId (s.lane + j)).stall then slotAt old (s.lane + j) else bubble }

/-- The misprediction window (44_fetch_branch_resolution.md R168): while `fetch_stall` is 1 and the marked
branch does not retire, a tick pulls nothing, trains nothing, and every lane is held or gets a bubble;
in the tick the branch retires a lane 0 that is not held pulls again. -/
def Obligations.NothingIsFetchedInTheMispredictionWindow : Prop :=
  (∀ s : State, Ticking s → s.latchFe.length = s.cfg.n → s.fetchStall = true →
    (∀ x ∈ s.latchMa, x.valid = true → x.isMispred = false) →
    ∃ t, step s = .next t ∧ t.fetchStall = true ∧ t.tsPos = s.tsPos ∧ t.opidCtr = s.opidCtr ∧
      t.eosSeen = s.eosSeen ∧ t.pht = s.pht ∧ t.ghr = s.ghr ∧ t.statBranches = s.statBranches ∧
      t.statMispred = s.statMispred ∧
      ∀ (l : Nat) (x : Slot), t.latchId[l]? = some x →
        t.latchFe[l]? = if x.stall then s.latchFe[l]? else some bubble) ∧
  ∀ (s : State) (i : Instr), Ticking s →
    (∃ x ∈ s.latchMa, x.valid = true ∧ x.isMispred = true) → s.eosSeen = false →
    s.nextResponse = .record i → s.beforeFetch.firstLane.laneStalled = false →
    ∃ t, step s = .next t ∧ s.tsPos < t.tsPos

/-- Records pulled in one tick (20_memory.md R43, 44_fetch_branch_resolution.md R171, R172): the cursor and
`opid_ctr` advance by the same number, the consumed count `ts_pop`, at most the Decode lanes not stalled
and at most N. -/
def Obligations.PulledRecordsFitTheFreeLanes : Prop :=
  ∀ s : State, Ticking s → s.latchFe.length = s.cfg.n →
    ∃ t, step s = .next t ∧ t.tsPos = s.tsPos + s.tsPop ∧ t.opidCtr = s.opidCtr + s.tsPop ∧
      s.tsPop ≤ (t.latchId.filter fun (x : Slot) => !x.stall).length ∧ s.tsPop ≤ s.cfg.n

/-- The window port suffices (10_state.md R35, 44_fetch_branch_resolution.md R171): two traces that show
the same N responses give the same tick. -/
def Obligations.TickReadsOnlyTheTraceWindow : Prop :=
  ∀ (s : State) (responses : List ResponseWord), Ticking s →
    State.tsWindow { s with trace := responses } = s.tsWindow →
    ∃ t, step s = .next t ∧
      step { s with trace := responses } = .next { t with trace := responses }

/-! The predictor (41_branch_predictor.md). -/

/-- 41_branch_predictor.md R91: the index is the low twelve address bits XOR the history, so bits 63:12 do
not matter, and it is inside the table. -/
def Obligations.IndexIsLowAddressXorHistory : Prop :=
  ∀ (addr : Addr) (ghr : History),
    phtIndex addr ghr = (addr.setWidth 12 ^^^ ghr).toNat ∧ phtIndex addr ghr < 4096

/-- 41_branch_predictor.md R92: under GSHARE the prediction is TAKEN from a counter of 2 up, which is bit 1
of the counter. -/
def Obligations.PredictionIsBitOneOfTheCounter : Prop :=
  ∀ (s : State) (addr : Addr) (actual : Direction), s.cfg.policy = .gshare →
    let c := s.pht.read (phtIndex addr s.ghr)
    s.predict addr actual = (if 2 ≤ c.toNat then .taken else .notTaken) ∧
    (s.predict addr actual = .taken ↔ c.getLsbD 1 = true)

/-- 41_branch_predictor.md R94, R95: saturating increment and decrement. -/
def Obligations.CountersSaturate : Prop :=
  ∀ c : Counter, (satInc c).toNat = min (c.toNat + 1) 3 ∧ (satDec c).toNat = c.toNat - 1

/-- 41_branch_predictor.md R97, R98: `update` under GSHARE trains the counter at the index formed with the
old history, leaves every other counter as it was, and then shifts the history. -/
def Obligations.UpdateTrainsOneCounterThenShifts : Prop :=
  ∀ (s : State) (addr : Addr) (p actual : Direction), s.cfg.policy = .gshare →
    s.pht.wf = true →
    let t := s.update addr p actual
    let i := phtIndex addr s.ghr
    t.pht.read i = (if actual = .taken then satInc (s.pht.read i) else satDec (s.pht.read i)) ∧
    (∀ j, j ≠ i → t.pht.read j = s.pht.read j) ∧
    t.ghr = s.ghr.extractLsb' 0 11 ++ actual.bit

/-- 41_branch_predictor.md R103: the history after any calls of `update` from reset is the outcomes as a
binary number modulo 4096; after k taken ones the index of an address is its low bits XOR k ones. -/
def Obligations.HistoryIsTheOutcomesModuloTable : Prop :=
  ∀ (cfg : Config) (responses : List ResponseWord), cfg.policy = .gshare →
    (∀ calls : List (Addr × Direction × Direction),
      ((State.resetWith cfg responses).updateAll calls).ghr.toNat = outcomesNumber calls % 4096) ∧
    ∀ (addr : Addr) (p : Direction) (k : Nat),
      phtIndex addr
          ((State.resetWith cfg responses).updateAll (List.replicate k (addr, p, .taken))).ghr =
        (addr.setWidth 12).toNat ^^^ ((2 ^ k - 1) % 4096)

/-- 41_branch_predictor.md R104: five taken branches at one address from reset, for every address: five
TAKEN predictions, five different counters from 2 to 3, no misprediction. -/
def Obligations.FiveTakenBranchesFromReset : Prop :=
  ∀ (cfg : Config) (responses : List ResponseWord) (addr : Addr), cfg.policy = .gshare →
    let s0 := State.resetWith cfg responses
    let r1 := s0.predictorRequest addr .taken
    let r2 := r1.2.predictorRequest addr .taken
    let r3 := r2.2.predictorRequest addr .taken
    let r4 := r3.2.predictorRequest addr .taken
    let r5 := r4.2.predictorRequest addr .taken
    let a := (addr.setWidth 12).toNat
    (∀ r ∈ [r1, r2, r3, r4, r5], r.1 = .taken) ∧
    phtIndex addr s0.ghr = a ∧ phtIndex addr r1.2.ghr = a ^^^ 1 ∧
    phtIndex addr r2.2.ghr = a ^^^ 3 ∧ phtIndex addr r3.2.ghr = a ^^^ 7 ∧
    phtIndex addr r4.2.ghr = a ^^^ 15 ∧
    (∀ i ∈ [a, a ^^^ 1, a ^^^ 3, a ^^^ 7, a ^^^ 15],
      s0.pht.read i = 2#2 ∧ r5.2.pht.read i = 3#2) ∧
    r5.2.ghr = 0b000000011111#12 ∧ r5.2.statBranches = 5 ∧ r5.2.statMispred = 0

/-- 41_branch_predictor.md R99: under PERFECT `update` touches only the counters, and a request of the
oracle never counts a misprediction, where what the port answers is the model's reading of decision D26
(log 12); the mispredict counter of `update` is 41_branch_predictor.md R96's; the engine never calls it, so no tick changes the predictor's
state, and both counters stay 0 for the whole run. -/
def Obligations.PerfectLeavesThePredictorAlone : Prop :=
  (∀ s : State, s.cfg.policy = .perfect →
    (∀ (addr : Addr) (p actual : Direction),
      s.update addr p actual =
        { s with
          statBranches := s.statBranches + 1
          statMispred := s.statMispred + (if p = actual then 0 else 1) } ∧
      (s.predictorRequest addr actual).2.statMispred = s.statMispred) ∧
    (Ticking s → ∃ t, step s = .next t ∧ t.statBranches = s.statBranches ∧
      t.statMispred = s.statMispred ∧ t.pht = s.pht ∧ t.ghr = s.ghr)) ∧
  ∀ (cfg : Config) (responses : List ResponseWord) (k : Nat), 0 < cfg.n →
    cfg.policy = .perfect →
    ∃ t, Sys2Proof.core.run k (State.resetWith cfg responses) = .next t ∧
      t.statBranches = 0 ∧ t.statMispred = 0

/-! Decode (43_hazard_detector.md). -/

/-- 43_hazard_detector.md R131: the collision function. -/
def Obligations.CollisionIsReadAfterWrite : Prop :=
  ∀ c p : Slot,
    let r := c.record.fields
    let w := p.record.fields
    collide c p = true ↔
      (r.ccRead = true ∧ w.ccWrite = true) ∨
      (r.src1Needed = true ∧ w.destNeeded = true ∧ r.src1 = w.dest) ∨
      (r.src2Needed = true ∧ w.destNeeded = true ∧ r.src2 = w.dest)

/-- 43_hazard_detector.md R144: the truth table of `pre_stall` for one valid lane, with the hazards as
R132, R133 and R134 define them, under the spec's own readings. -/
def Obligations.ArbiterFollowsTheTruthTable : Prop :=
  ∀ (cfg : Config) (id ex ma : List Slot) (c : Slot), SpecReadings cfg → c.valid = true →
    let inEx (p : Slot) : Prop :=
      p ∈ ex ∧ p.valid = true ∧ p.opId ≤ c.opId ∧ collide c p = true
    let hId := ∃ p ∈ id, p.valid = true ∧ p.opId < c.opId ∧ collide c p = true
    let hEx := ∃ p, inEx p
    let load := ∃ p f, inEx p ∧ p.record = .load f
    let hMa := ∃ p ∈ ma, p.valid = true ∧ p.opId ≤ c.opId ∧ collide c p = true
    let pre := preStall cfg id ex ma c
    (hId → pre = true) ∧
    (¬hId → hEx → cfg.fwdEx = false → pre = true) ∧
    (¬hId → load → cfg.fwdEx = true → pre = true) ∧
    (¬hId → hEx → ¬load → cfg.fwdEx = true → pre = false) ∧
    (¬hId → ¬hEx → hMa → cfg.fwdMa = false → pre = true) ∧
    (¬hId → ¬hEx → hMa → cfg.fwdMa = true → pre = false) ∧
    (¬hId → ¬hEx → ¬hMa → pre = false)

/-- 43_hazard_detector.md R145: the two other readings, the named switches of
93_implementation_defined.md U7 and U8 (log 10, log 11), differ from the spec's rule only in the corners
R145 names. -/
def Obligations.OtherReadingsDifferOnlyInTheCorners : Prop :=
  ∀ (cfg : Config) (id ex ma : List Slot) (c : Slot), SpecReadings cfg →
    (preStall { cfg with sourcePriority := .everyCollision } id ex ma c ≠
        preStall cfg id ex ma c →
      cfg.fwdEx = true ∧ cfg.fwdMa = false ∧ colliders ex c ≠ [] ∧ colliders ma c ≠ [] ∧
      (∀ p ∈ colliders ex c, isLoad p.record = false) ∧
      preStall cfg id ex ma c = false) ∧
    (preStall { cfg with loadUse := .youngestLoad } id ex ma c ≠ preStall cfg id ex ma c →
      cfg.fwdEx = true ∧ 2 ≤ ex.length ∧
      (∃ p ∈ colliders ex c, isLoad p.record = true) ∧
      ∃ p ∈ colliders ex c, isLoad p.record = false)

/-- 43_hazard_detector.md R138: the propagation as written, and its equivalent: with `m` the oldest valid
lane that has a hazard of its own, exactly the valid lanes of `op_id` at least `m`'s stall. The distinct
`op_id`s are 10_state.md R25 item 1. -/
def Obligations.OldestHazardStallsEverythingYounger : Prop :=
  ∀ (cfg : Config) (id ex ma : List Slot),
    ((validSlots id).map fun x => x.opId).Nodup →
    (∀ c ∈ id, c.valid = true →
      (stallOf cfg id ex ma c = true ↔
        preStall cfg id ex ma c = true ∨
          ∃ j ∈ id, j.valid = true ∧ j.opId < c.opId ∧ preStall cfg id ex ma j = true)) ∧
    (∀ m ∈ id, m.valid = true → preStall cfg id ex ma m = true →
      (∀ j ∈ id, j.valid = true → preStall cfg id ex ma j = true → m.opId ≤ j.opId) →
      ∀ c ∈ id, c.valid = true → (stallOf cfg id ex ma c = true ↔ m.opId ≤ c.opId)) ∧
    ((∀ m ∈ id, preStall cfg id ex ma m = false) → ∀ c ∈ id, stallOf cfg id ex ma c = false)

/-- The in-order invariant (10_state.md R25 item 7; 95_test_vectors.md E4) after every tick of every
state. -/
def Obligations.TickLeavesStallsInOrder : Prop :=
  ∀ s : State, Ticking s → ∃ t, step s = .next t ∧ InOrderStalls t

/-- Bubbles take no part (43_hazard_detector.md R139): a bubble lane never stalls, and no lane's stall
depends on the bubbles in the three latches. -/
def Obligations.BubblesTakeNoPartInTheStalls : Prop :=
  ∀ (cfg : Config) (id ex ma : List Slot) (c : Slot),
    (c.valid = false → stallOf cfg id ex ma c = false) ∧
    stallOf cfg id ex ma c = stallOf cfg (validSlots id) (validSlots ex) (validSlots ma) c

/-- The load-use rule (40_record_kinds.md R82, 43_hazard_detector.md R135): a valid Decode lane that
collides with a LOAD that moves into Execute in the same tick stalls, whatever the forwarding toggles. -/
def Obligations.LoadUseAlwaysStalls : Prop :=
  ∀ (s : State) (k l : Nat) (p c : Slot), Ticking s → s.cfg.loadUse = .anyLoad →
    s.latchId[k]? = some p → p.valid = true → p.stall = false → (∃ f, p.record = .load f) →
    s.latchFe[l]? = some c → c.valid = true → p.opId ≤ c.opId → collide c p = true →
    ∃ t x, step s = .next t ∧ t.latchId[l]? = some x ∧ x.record = c.record ∧ x.stall = true

/-- Instructions that do not collide never stall each other (43_hazard_detector.md R146, last sentence;
95_test_vectors.md E7). -/
def Obligations.IndependentInstructionsNeverStall : Prop :=
  ∀ (cfg : Config) (id ex ma : List Slot),
    (∀ c ∈ id, ∀ p ∈ id ++ ex ++ ma, collide c p = false) →
    ∀ c ∈ id, stallOf cfg id ex ma c = false

/-- The stall lengths of 43_hazard_detector.md R146 for a consumer right behind its producer, one lane: the
consumer stands stalled in Decode for exactly the table's number of ticks. -/
def Obligations.AdjacentConsumerStallsTheTablesTicks : Prop :=
  ∀ (s : State) (p c : Slot) (k : Nat), s.cfg.n = 1 → Ticking s → SpecReadings s.cfg →
    s.latchFe = [c] → s.latchId = [p] → s.latchEx = [bubble] → s.latchMa = [bubble] →
    p.valid = true → p.stall = false → c.valid = true → p.opId ≤ c.opId → collide c p = true →
    let stalls := adjacentStalls (isLoad p.record) s.cfg.fwdEx s.cfg.fwdMa
    k ≤ stalls →
    ∃ t, Sys2Proof.core.run (k + 1) s = .next t ∧
      t.latchId = [{ c with stall := decide (k < stalls) }]

/-! The tick (42_pipeline_tick.md). -/

/-- 42_pipeline_tick.md R112 and the condition of R114: a tick counts the valid slots the Memory latch
held, and `halt` rises exactly when one of them carries the recorded halt id. -/
def Obligations.WriteBackCountsAndHalts : Prop :=
  ∀ s : State, Ticking s →
    ∃ t, step s = .next t ∧
      t.statRetired = s.statRetired + (s.latchMa.filter fun (x : Slot) => x.valid).length ∧
      (t.halt = true ↔
        s.haltIdValid = true ∧ ∃ x ∈ s.latchMa, x.valid = true ∧ x.opId = s.haltId)

/-- 42_pipeline_tick.md R115, R116 and 43_hazard_detector.md R130: what the Memory, Execute and Decode
latches take. -/
def Obligations.StagesPassSlotsOn : Prop :=
  ∀ s : State, Ticking s →
    ∃ t, step s = .next t ∧
      t.latchMa = s.latchEx ∧
      t.latchEx = (s.latchId.map fun d =>
        if d.valid = true ∧ d.stall = false then { d with stall := false } else bubble) ∧
      (t.latchId.map fun (x : Slot) => { x with stall := false }) =
        s.latchFe.map fun (x : Slot) => { x with stall := false }

/-- The Fetch row of 42_pipeline_tick.md R117: a lane that Decode stalls keeps its slot; any other lane
gets a bubble or a newly fetched, unstalled slot with a new `op_id`. -/
def Obligations.FetchLatchHoldsOrTakesNew : Prop :=
  ∀ s : State, Ticking s → s.latchFe.length = s.cfg.n →
    ∃ t, step s = .next t ∧ t.latchFe.length = s.latchFe.length ∧
      ∀ (l : Nat) (x y : Slot), t.latchId[l]? = some x → t.latchFe[l]? = some y →
        (x.stall = true → s.latchFe[l]? = some y) ∧
        (x.stall = false → y = bubble ∨
          (y.valid = true ∧ y.stall = false ∧ s.opidCtr < y.opId ∧ y.opId ≤ t.opidCtr))

/-- Three ticks from Decode to retirement (40_record_kinds.md R80, 42_pipeline_tick.md R120): a valid
Decode slot that is not stalled is in Execute after one tick, in Memory after two, and counted in the
third, as long as the block does not halt before. -/
def Obligations.RetiresThreeTicksAfterDecode : Prop :=
  ∀ (s : State) (l : Nat) (d : Slot), Ticking s → s.latchId[l]? = some d → d.valid = true →
    d.stall = false →
    ∃ t, step s = .next t ∧ t.latchEx[l]? = some d ∧
      (t.halt = false → ∃ u, step t = .next u ∧ u.latchMa[l]? = some d ∧
        (u.halt = false → ∃ v, step u = .next v ∧
          v.statRetired = u.statRetired + (validSlots u.latchMa).length ∧
          d ∈ validSlots u.latchMa))

/-- 42_pipeline_tick.md R118: the sequential tick is the register-transfer form. -/
def Obligations.TickIsTheRegisterTransferForm : Prop :=
  ∀ s : State, Ticking s → s.latchFe.length = s.cfg.n → step s = .next s.rtlTick

/-! Invariants, runs and whole-machine properties. -/

/-- The canonical form of the pattern history table is kept by every step (the model's form, log 9; the
index bound is 20_memory.md R41). -/
def Obligations.StepKeepsTheTableCanonical : Prop :=
  ∀ s : State, 0 < s.cfg.n → s.pht.wf = true → ∃ t, step s = .next t ∧ t.pht.wf = true

/-- The pipeline invariant (10_state.md R25) holds after reset, for every instance and trace. -/
def Obligations.PipelineInvariantAtReset : Prop :=
  PipelineInv State.reset ∧
    ∀ (cfg : Config) (responses : List ResponseWord), 0 < cfg.n →
      PipelineInv (State.resetWith cfg responses)

/-- Every step keeps the pipeline invariant (10_state.md R25): unique and ordered `op_id`s, held pairs, the
in-order stalls, one outstanding fetch-stall, the end marks, and nothing lost or counted twice. The
canonical form of the table is the model's (log 9). -/
def Obligations.StepKeepsThePipelineInvariant : Prop :=
  ∀ s : State, PipelineInv s → ∃ t, step s = .next t ∧ PipelineInv t

/-- The counts of records (10_state.md R25 items 6 and 9; 95_test_vectors.md E3): after any number of edges
from reset, retired and in flight together number what was pulled, and at halt the number retired is the
number pulled. -/
def Obligations.HaltedRunsRetiredEveryRecord : Prop :=
  ∀ (cfg : Config) (responses : List ResponseWord) (k : Nat), 0 < cfg.n →
    ∃ t, Sys2Proof.core.run k (State.resetWith cfg responses) = .next t ∧
      t.statRetired + t.inFlight.length = t.opidCtr ∧ t.tsPos = t.opidCtr ∧
      (t.halt = true → t.statRetired = t.tsPos ∧ t.inFlight = [])

/-- No deadlock (70_reset_and_hazards.md R208): the oldest instruction in Decode is not stalled in three
consecutive ticks. -/
def Obligations.OldestInDecodeIsSoonReleased : Prop :=
  ∀ s t u : State, PipelineInv s → step s = .next t → step t = .next u →
    OldestInDecodeStalls s → OldestInDecodeStalls t → ¬OldestInDecodeStalls u

/-- Once the end is recorded with instructions in flight, the block halts within a bound in the issue width
(44_fetch_branch_resolution.md R169, 60_exceptions.md R183; the bound is this statement's). -/
def Obligations.RecordedEndDrainsToHalt : Prop :=
  ∀ s : State, PipelineInv s → s.rst = false → s.halt = false → s.eosSeen = true →
    s.inFlight ≠ [] →
    ∃ k t, k ≤ 6 * s.cfg.n + 3 ∧ Sys2Proof.core.run k s = .next t ∧ t.halt = true

/-- 70_reset_and_hazards.md R207, case 1: a trace with no record before its end never halts; only the cycle
counter moves, and `fatal_error` tells a malformed first response. -/
def Obligations.TraceWithoutRecordsNeverHalts : Prop :=
  ∀ (cfg : Config) (responses : List ResponseWord) (k : Nat), 0 < cfg.n →
    (∀ i, responseAt responses 0 ≠ .record i) →
    ∃ t, Sys2Proof.core.run k (State.resetWith cfg responses) = .next t ∧ t.halt = false ∧
      t.statCycles = k ∧ t.statRetired = 0 ∧ t.opidCtr = 0 ∧
      (t.fatalError = true ↔ 0 < k ∧ responseAt responses 0 = .malformed)

/-- 70_reset_and_hazards.md R207, case 2: where a mispredicted branch is in flight and the trace has no
further record, `halt` never rises. -/
def Obligations.MispredictedLastBranchNeverHalts : Prop :=
  ∀ (s : State) (k : Nat), PipelineInv s → s.rst = false → s.halt = false →
    s.eosSeen = false → s.fetchStall = true → (∀ i, s.nextResponse ≠ .record i) →
    ∃ t, Sys2Proof.core.run k s = .next t ∧ t.halt = false

/-- The hung block (70_reset_and_hazards.md R207): with the end recorded and the pipeline empty a tick
changes nothing but the cycle counter and leaves the block hung. -/
def Obligations.HungBlockOnlyCountsCycles : Prop :=
  ∀ s : State, Hung s →
    ∃ t, step s = .next t ∧ Hung t ∧ t.statCycles = s.statCycles + 1 ∧
      t.statRetired = s.statRetired ∧ t.statBranches = s.statBranches ∧
      t.statMispred = s.statMispred ∧ t.opidCtr = s.opidCtr ∧ t.tsPos = s.tsPos ∧
      t.fatalError = s.fatalError ∧ t.haltId = s.haltId ∧ t.fetchStall = s.fetchStall ∧
      t.pht = s.pht ∧ t.ghr = s.ghr

/-- The shortest run (42_pipeline_tick.md R120): a trace of one record that is not mispredicted halts in
tick 5 and not before. -/
def Obligations.OneRecordHaltsInTickFive : Prop :=
  ∀ (cfg : Config) (i : Instr), 0 < cfg.n →
    (cfg.policy = .gshare → isCbr i = true → i.fields.brDir = .taken) →
    ∃ s t, Sys2Proof.core.run 4 (State.resetWith cfg (recordTrace [i])) = .next s ∧
      s.halt = false ∧
      Sys2Proof.core.run 5 (State.resetWith cfg (recordTrace [i])) = .next t ∧
      t.halt = true ∧ t.fatalError = false ∧ t.statCycles = 5 ∧ t.statRetired = 1

/-- 70_reset_and_hazards.md R211: K records that neither stall nor are mispredicted halt in tick
`ceil(K / N) + 4`, on every instance. The records are taken without sources and not conditional
branches, which rules both out. -/
def Obligations.IndependentRecordsTakeTheBaseLatency : Prop :=
  ∀ (cfg : Config) (records : List Instr), 0 < cfg.n → records ≠ [] →
    (∀ i ∈ records, independentRecord i = true) →
    let ticks := (records.length + cfg.n - 1) / cfg.n + 4
    ∃ s t, Sys2Proof.core.run (ticks - 1) (State.resetWith cfg (recordTrace records)) = .next s ∧
      s.halt = false ∧
      Sys2Proof.core.run ticks (State.resetWith cfg (recordTrace records)) = .next t ∧
      t.halt = true ∧ t.statCycles = ticks ∧ t.statRetired = records.length

/-- The fields no rule reads have no effect (93_implementation_defined.md U2, 10_state.md R11,
95_test_vectors.md V5): erasing them, in the latches and in the trace, commutes with every edge. A slot
that is not valid is erased whole. -/
def Obligations.UnreadFieldsHaveNoEffect : Prop :=
  ∀ s : State, 0 < s.cfg.n → ∃ t, step s = .next t ∧ step s.erase = .next t.erase
end

