-- ==== Sys2Proof/Laws/State.lean ====
section
/-!
SUPPORT. One lemma per field per record update of the machine, each true by rfl, so that no proof
unfolds an update.
-/

namespace Sys2Proof.Machine

variable (s : State)

/-! The fields after the trace cursor's advance (20_memory.md R42). -/

@[simp] theorem State.advance_cfg : s.advance.cfg = s.cfg := rfl
@[simp] theorem State.advance_rst : s.advance.rst = s.rst := rfl
@[simp] theorem State.advance_trace : s.advance.trace = s.trace := rfl
@[simp] theorem State.advance_tsPos : s.advance.tsPos = s.tsPos + 1 := rfl
@[simp] theorem State.advance_latchFe : s.advance.latchFe = s.latchFe := rfl
@[simp] theorem State.advance_latchId : s.advance.latchId = s.latchId := rfl
@[simp] theorem State.advance_latchEx : s.advance.latchEx = s.latchEx := rfl
@[simp] theorem State.advance_latchMa : s.advance.latchMa = s.latchMa := rfl
@[simp] theorem State.advance_opidCtr : s.advance.opidCtr = s.opidCtr := rfl
@[simp] theorem State.advance_fetchStall : s.advance.fetchStall = s.fetchStall := rfl
@[simp] theorem State.advance_eosSeen : s.advance.eosSeen = s.eosSeen := rfl
@[simp] theorem State.advance_haltId : s.advance.haltId = s.haltId := rfl
@[simp] theorem State.advance_haltIdValid : s.advance.haltIdValid = s.haltIdValid := rfl
@[simp] theorem State.advance_halt : s.advance.halt = s.halt := rfl
@[simp] theorem State.advance_fatalError : s.advance.fatalError = s.fatalError := rfl
@[simp] theorem State.advance_pht : s.advance.pht = s.pht := rfl
@[simp] theorem State.advance_ghr : s.advance.ghr = s.ghr := rfl
@[simp] theorem State.advance_statCycles : s.advance.statCycles = s.statCycles := rfl
@[simp] theorem State.advance_statRetired : s.advance.statRetired = s.statRetired := rfl
@[simp] theorem State.advance_statBranches : s.advance.statBranches = s.statBranches := rfl
@[simp] theorem State.advance_statMispred : s.advance.statMispred = s.statMispred := rfl

/-! The fields after the start of Fetch (44_fetch_branch_resolution.md R160). -/

@[simp] theorem State.firstLane_cfg : s.firstLane.cfg = s.cfg := rfl
@[simp] theorem State.firstLane_rst : s.firstLane.rst = s.rst := rfl
@[simp] theorem State.firstLane_trace : s.firstLane.trace = s.trace := rfl
@[simp] theorem State.firstLane_tsPos : s.firstLane.tsPos = s.tsPos := rfl
@[simp] theorem State.firstLane_latchFe : s.firstLane.latchFe = [] := rfl
@[simp] theorem State.firstLane_latchId : s.firstLane.latchId = s.latchId := rfl
@[simp] theorem State.firstLane_latchEx : s.firstLane.latchEx = s.latchEx := rfl
@[simp] theorem State.firstLane_latchMa : s.firstLane.latchMa = s.latchMa := rfl
@[simp] theorem State.firstLane_opidCtr : s.firstLane.opidCtr = s.opidCtr := rfl
@[simp] theorem State.firstLane_fetchStall : s.firstLane.fetchStall = s.fetchStall := rfl
@[simp] theorem State.firstLane_eosSeen : s.firstLane.eosSeen = s.eosSeen := rfl
@[simp] theorem State.firstLane_haltId : s.firstLane.haltId = s.haltId := rfl
@[simp] theorem State.firstLane_haltIdValid : s.firstLane.haltIdValid = s.haltIdValid := rfl
@[simp] theorem State.firstLane_halt : s.firstLane.halt = s.halt := rfl
@[simp] theorem State.firstLane_fatalError : s.firstLane.fatalError = s.fatalError := rfl
@[simp] theorem State.firstLane_pht : s.firstLane.pht = s.pht := rfl
@[simp] theorem State.firstLane_ghr : s.firstLane.ghr = s.ghr := rfl
@[simp] theorem State.firstLane_statCycles : s.firstLane.statCycles = s.statCycles := rfl
@[simp] theorem State.firstLane_statRetired : s.firstLane.statRetired = s.statRetired := rfl
@[simp] theorem State.firstLane_statBranches : s.firstLane.statBranches = s.statBranches := rfl
@[simp] theorem State.firstLane_statMispred : s.firstLane.statMispred = s.statMispred := rfl

/-! The fields after a Fetch latch write (44_fetch_branch_resolution.md R170). -/

@[simp] theorem State.fillLane_cfg (x : Slot) : (s.fillLane x).cfg = s.cfg := rfl
@[simp] theorem State.fillLane_rst (x : Slot) : (s.fillLane x).rst = s.rst := rfl
@[simp] theorem State.fillLane_trace (x : Slot) : (s.fillLane x).trace = s.trace := rfl
@[simp] theorem State.fillLane_tsPos (x : Slot) : (s.fillLane x).tsPos = s.tsPos := rfl
@[simp] theorem State.fillLane_latchFe (x : Slot) : (s.fillLane x).latchFe = s.latchFe ++ [x] := rfl
@[simp] theorem State.fillLane_latchId (x : Slot) : (s.fillLane x).latchId = s.latchId := rfl
@[simp] theorem State.fillLane_latchEx (x : Slot) : (s.fillLane x).latchEx = s.latchEx := rfl
@[simp] theorem State.fillLane_latchMa (x : Slot) : (s.fillLane x).latchMa = s.latchMa := rfl
@[simp] theorem State.fillLane_opidCtr (x : Slot) : (s.fillLane x).opidCtr = s.opidCtr := rfl
@[simp] theorem State.fillLane_fetchStall (x : Slot) :
    (s.fillLane x).fetchStall = s.fetchStall := rfl
@[simp] theorem State.fillLane_eosSeen (x : Slot) : (s.fillLane x).eosSeen = s.eosSeen := rfl
@[simp] theorem State.fillLane_haltId (x : Slot) : (s.fillLane x).haltId = s.haltId := rfl
@[simp] theorem State.fillLane_haltIdValid (x : Slot) :
    (s.fillLane x).haltIdValid = s.haltIdValid := rfl
@[simp] theorem State.fillLane_halt (x : Slot) : (s.fillLane x).halt = s.halt := rfl
@[simp] theorem State.fillLane_fatalError (x : Slot) :
    (s.fillLane x).fatalError = s.fatalError := rfl
@[simp] theorem State.fillLane_pht (x : Slot) : (s.fillLane x).pht = s.pht := rfl
@[simp] theorem State.fillLane_ghr (x : Slot) : (s.fillLane x).ghr = s.ghr := rfl
@[simp] theorem State.fillLane_statCycles (x : Slot) :
    (s.fillLane x).statCycles = s.statCycles := rfl
@[simp] theorem State.fillLane_statRetired (x : Slot) :
    (s.fillLane x).statRetired = s.statRetired := rfl
@[simp] theorem State.fillLane_statBranches (x : Slot) :
    (s.fillLane x).statBranches = s.statBranches := rfl
@[simp] theorem State.fillLane_statMispred (x : Slot) :
    (s.fillLane x).statMispred = s.statMispred := rfl

/-! The fields after the end of the trace (44_fetch_branch_resolution.md R164). -/

@[simp] theorem State.recordEnd_cfg : s.recordEnd.cfg = s.cfg := rfl
@[simp] theorem State.recordEnd_rst : s.recordEnd.rst = s.rst := rfl
@[simp] theorem State.recordEnd_trace : s.recordEnd.trace = s.trace := rfl
@[simp] theorem State.recordEnd_tsPos : s.recordEnd.tsPos = s.tsPos := rfl
@[simp] theorem State.recordEnd_latchFe : s.recordEnd.latchFe = s.latchFe := rfl
@[simp] theorem State.recordEnd_latchId : s.recordEnd.latchId = s.latchId := rfl
@[simp] theorem State.recordEnd_latchEx : s.recordEnd.latchEx = s.latchEx := rfl
@[simp] theorem State.recordEnd_latchMa : s.recordEnd.latchMa = s.latchMa := rfl
@[simp] theorem State.recordEnd_opidCtr : s.recordEnd.opidCtr = s.opidCtr := rfl
@[simp] theorem State.recordEnd_fetchStall : s.recordEnd.fetchStall = s.fetchStall := rfl
@[simp] theorem State.recordEnd_eosSeen : s.recordEnd.eosSeen = true := rfl
@[simp] theorem State.recordEnd_haltId : s.recordEnd.haltId = s.opidCtr := rfl
@[simp] theorem State.recordEnd_haltIdValid : s.recordEnd.haltIdValid = true := rfl
@[simp] theorem State.recordEnd_halt : s.recordEnd.halt = s.halt := rfl
@[simp] theorem State.recordEnd_fatalError : s.recordEnd.fatalError = s.fatalError := rfl
@[simp] theorem State.recordEnd_pht : s.recordEnd.pht = s.pht := rfl
@[simp] theorem State.recordEnd_ghr : s.recordEnd.ghr = s.ghr := rfl
@[simp] theorem State.recordEnd_statCycles : s.recordEnd.statCycles = s.statCycles := rfl
@[simp] theorem State.recordEnd_statRetired : s.recordEnd.statRetired = s.statRetired := rfl
@[simp] theorem State.recordEnd_statBranches : s.recordEnd.statBranches = s.statBranches := rfl
@[simp] theorem State.recordEnd_statMispred : s.recordEnd.statMispred = s.statMispred := rfl

/-! The fields after taking MalformedRecord (60_exceptions.md R181). -/

@[simp] theorem State.raiseMalformed_cfg : s.raiseMalformed.cfg = s.cfg := rfl
@[simp] theorem State.raiseMalformed_rst : s.raiseMalformed.rst = s.rst := rfl
@[simp] theorem State.raiseMalformed_trace : s.raiseMalformed.trace = s.trace := rfl
@[simp] theorem State.raiseMalformed_tsPos : s.raiseMalformed.tsPos = s.tsPos := rfl
@[simp] theorem State.raiseMalformed_latchFe : s.raiseMalformed.latchFe = s.latchFe := rfl
@[simp] theorem State.raiseMalformed_latchId : s.raiseMalformed.latchId = s.latchId := rfl
@[simp] theorem State.raiseMalformed_latchEx : s.raiseMalformed.latchEx = s.latchEx := rfl
@[simp] theorem State.raiseMalformed_latchMa : s.raiseMalformed.latchMa = s.latchMa := rfl
@[simp] theorem State.raiseMalformed_opidCtr : s.raiseMalformed.opidCtr = s.opidCtr := rfl
@[simp] theorem State.raiseMalformed_fetchStall : s.raiseMalformed.fetchStall = s.fetchStall := rfl
@[simp] theorem State.raiseMalformed_eosSeen : s.raiseMalformed.eosSeen = true := rfl
@[simp] theorem State.raiseMalformed_haltId : s.raiseMalformed.haltId = s.opidCtr := rfl
@[simp] theorem State.raiseMalformed_haltIdValid : s.raiseMalformed.haltIdValid = true := rfl
@[simp] theorem State.raiseMalformed_halt : s.raiseMalformed.halt = s.halt := rfl
@[simp] theorem State.raiseMalformed_fatalError : s.raiseMalformed.fatalError = true := rfl
@[simp] theorem State.raiseMalformed_pht : s.raiseMalformed.pht = s.pht := rfl
@[simp] theorem State.raiseMalformed_ghr : s.raiseMalformed.ghr = s.ghr := rfl
@[simp] theorem State.raiseMalformed_statCycles : s.raiseMalformed.statCycles = s.statCycles := rfl
@[simp] theorem State.raiseMalformed_statRetired :
    s.raiseMalformed.statRetired = s.statRetired := rfl
@[simp] theorem State.raiseMalformed_statBranches :
    s.raiseMalformed.statBranches = s.statBranches := rfl
@[simp] theorem State.raiseMalformed_statMispred :
    s.raiseMalformed.statMispred = s.statMispred := rfl

/-! The fields after a pulled record's slot (44_fetch_branch_resolution.md R165). -/

@[simp] theorem State.placeRecord_cfg (i : Instr) (m : Bool) :
    (s.placeRecord i m).cfg = s.cfg := rfl
@[simp] theorem State.placeRecord_rst (i : Instr) (m : Bool) :
    (s.placeRecord i m).rst = s.rst := rfl
@[simp] theorem State.placeRecord_trace (i : Instr) (m : Bool) :
    (s.placeRecord i m).trace = s.trace := rfl
@[simp] theorem State.placeRecord_tsPos (i : Instr) (m : Bool) :
    (s.placeRecord i m).tsPos = s.tsPos := rfl
@[simp] theorem State.placeRecord_latchFe (i : Instr) (m : Bool) : (s.placeRecord i m).latchFe =
      s.latchFe ++
        [{ record := i, opId := s.opidCtr + 1, valid := true, stall := false, isMispred := m }] := rfl
@[simp] theorem State.placeRecord_latchId (i : Instr) (m : Bool) :
    (s.placeRecord i m).latchId = s.latchId := rfl
@[simp] theorem State.placeRecord_latchEx (i : Instr) (m : Bool) :
    (s.placeRecord i m).latchEx = s.latchEx := rfl
@[simp] theorem State.placeRecord_latchMa (i : Instr) (m : Bool) :
    (s.placeRecord i m).latchMa = s.latchMa := rfl
@[simp] theorem State.placeRecord_opidCtr (i : Instr) (m : Bool) :
    (s.placeRecord i m).opidCtr = s.opidCtr + 1 := rfl
@[simp] theorem State.placeRecord_fetchStall (i : Instr) (m : Bool) :
    (s.placeRecord i m).fetchStall = s.fetchStall := rfl
@[simp] theorem State.placeRecord_eosSeen (i : Instr) (m : Bool) :
    (s.placeRecord i m).eosSeen = s.eosSeen := rfl
@[simp] theorem State.placeRecord_haltId (i : Instr) (m : Bool) :
    (s.placeRecord i m).haltId = s.haltId := rfl
@[simp] theorem State.placeRecord_haltIdValid (i : Instr) (m : Bool) :
    (s.placeRecord i m).haltIdValid = s.haltIdValid := rfl
@[simp] theorem State.placeRecord_halt (i : Instr) (m : Bool) :
    (s.placeRecord i m).halt = s.halt := rfl
@[simp] theorem State.placeRecord_fatalError (i : Instr) (m : Bool) :
    (s.placeRecord i m).fatalError = s.fatalError := rfl
@[simp] theorem State.placeRecord_pht (i : Instr) (m : Bool) :
    (s.placeRecord i m).pht = s.pht := rfl
@[simp] theorem State.placeRecord_ghr (i : Instr) (m : Bool) :
    (s.placeRecord i m).ghr = s.ghr := rfl
@[simp] theorem State.placeRecord_statCycles (i : Instr) (m : Bool) :
    (s.placeRecord i m).statCycles = s.statCycles := rfl
@[simp] theorem State.placeRecord_statRetired (i : Instr) (m : Bool) :
    (s.placeRecord i m).statRetired = s.statRetired := rfl
@[simp] theorem State.placeRecord_statBranches (i : Instr) (m : Bool) :
    (s.placeRecord i m).statBranches = s.statBranches := rfl
@[simp] theorem State.placeRecord_statMispred (i : Instr) (m : Bool) :
    (s.placeRecord i m).statMispred = s.statMispred := rfl

/-! The fields after the branch counters (41_branch_predictor.md R96). -/

@[simp] theorem State.countBranch_cfg (p a : Direction) : (s.countBranch p a).cfg = s.cfg := rfl
@[simp] theorem State.countBranch_rst (p a : Direction) : (s.countBranch p a).rst = s.rst := rfl
@[simp] theorem State.countBranch_trace (p a : Direction) :
    (s.countBranch p a).trace = s.trace := rfl
@[simp] theorem State.countBranch_tsPos (p a : Direction) :
    (s.countBranch p a).tsPos = s.tsPos := rfl
@[simp] theorem State.countBranch_latchFe (p a : Direction) :
    (s.countBranch p a).latchFe = s.latchFe := rfl
@[simp] theorem State.countBranch_latchId (p a : Direction) :
    (s.countBranch p a).latchId = s.latchId := rfl
@[simp] theorem State.countBranch_latchEx (p a : Direction) :
    (s.countBranch p a).latchEx = s.latchEx := rfl
@[simp] theorem State.countBranch_latchMa (p a : Direction) :
    (s.countBranch p a).latchMa = s.latchMa := rfl
@[simp] theorem State.countBranch_opidCtr (p a : Direction) :
    (s.countBranch p a).opidCtr = s.opidCtr := rfl
@[simp] theorem State.countBranch_fetchStall (p a : Direction) :
    (s.countBranch p a).fetchStall = s.fetchStall := rfl
@[simp] theorem State.countBranch_eosSeen (p a : Direction) :
    (s.countBranch p a).eosSeen = s.eosSeen := rfl
@[simp] theorem State.countBranch_haltId (p a : Direction) :
    (s.countBranch p a).haltId = s.haltId := rfl
@[simp] theorem State.countBranch_haltIdValid (p a : Direction) :
    (s.countBranch p a).haltIdValid = s.haltIdValid := rfl
@[simp] theorem State.countBranch_halt (p a : Direction) : (s.countBranch p a).halt = s.halt := rfl
@[simp] theorem State.countBranch_fatalError (p a : Direction) :
    (s.countBranch p a).fatalError = s.fatalError := rfl
@[simp] theorem State.countBranch_pht (p a : Direction) : (s.countBranch p a).pht = s.pht := rfl
@[simp] theorem State.countBranch_ghr (p a : Direction) : (s.countBranch p a).ghr = s.ghr := rfl
@[simp] theorem State.countBranch_statCycles (p a : Direction) :
    (s.countBranch p a).statCycles = s.statCycles := rfl
@[simp] theorem State.countBranch_statRetired (p a : Direction) :
    (s.countBranch p a).statRetired = s.statRetired := rfl
@[simp] theorem State.countBranch_statBranches (p a : Direction) :
    (s.countBranch p a).statBranches = s.statBranches + 1 := rfl
@[simp] theorem State.countBranch_statMispred (p a : Direction) : (s.countBranch p a).statMispred =
      if p = a then s.statMispred else s.statMispred + 1 := rfl

/-! The fields after the counter and the history (41_branch_predictor.md R97, R98). -/

@[simp] theorem State.trainGshare_cfg (d : Addr) (a : Direction) :
    (s.trainGshare d a).cfg = s.cfg := rfl
@[simp] theorem State.trainGshare_rst (d : Addr) (a : Direction) :
    (s.trainGshare d a).rst = s.rst := rfl
@[simp] theorem State.trainGshare_trace (d : Addr) (a : Direction) :
    (s.trainGshare d a).trace = s.trace := rfl
@[simp] theorem State.trainGshare_tsPos (d : Addr) (a : Direction) :
    (s.trainGshare d a).tsPos = s.tsPos := rfl
@[simp] theorem State.trainGshare_latchFe (d : Addr) (a : Direction) :
    (s.trainGshare d a).latchFe = s.latchFe := rfl
@[simp] theorem State.trainGshare_latchId (d : Addr) (a : Direction) :
    (s.trainGshare d a).latchId = s.latchId := rfl
@[simp] theorem State.trainGshare_latchEx (d : Addr) (a : Direction) :
    (s.trainGshare d a).latchEx = s.latchEx := rfl
@[simp] theorem State.trainGshare_latchMa (d : Addr) (a : Direction) :
    (s.trainGshare d a).latchMa = s.latchMa := rfl
@[simp] theorem State.trainGshare_opidCtr (d : Addr) (a : Direction) :
    (s.trainGshare d a).opidCtr = s.opidCtr := rfl
@[simp] theorem State.trainGshare_fetchStall (d : Addr) (a : Direction) :
    (s.trainGshare d a).fetchStall = s.fetchStall := rfl
@[simp] theorem State.trainGshare_eosSeen (d : Addr) (a : Direction) :
    (s.trainGshare d a).eosSeen = s.eosSeen := rfl
@[simp] theorem State.trainGshare_haltId (d : Addr) (a : Direction) :
    (s.trainGshare d a).haltId = s.haltId := rfl
@[simp] theorem State.trainGshare_haltIdValid (d : Addr) (a : Direction) :
    (s.trainGshare d a).haltIdValid = s.haltIdValid := rfl
@[simp] theorem State.trainGshare_halt (d : Addr) (a : Direction) :
    (s.trainGshare d a).halt = s.halt := rfl
@[simp] theorem State.trainGshare_fatalError (d : Addr) (a : Direction) :
    (s.trainGshare d a).fatalError = s.fatalError := rfl
@[simp] theorem State.trainGshare_pht (d : Addr) (a : Direction) : (s.trainGshare d a).pht =
      s.pht.write (phtIndex d s.ghr) (trainCounter a (s.pht.read (phtIndex d s.ghr))) := rfl
@[simp] theorem State.trainGshare_ghr (d : Addr) (a : Direction) :
    (s.trainGshare d a).ghr = shiftHistory s.ghr a := rfl
@[simp] theorem State.trainGshare_statCycles (d : Addr) (a : Direction) :
    (s.trainGshare d a).statCycles = s.statCycles := rfl
@[simp] theorem State.trainGshare_statRetired (d : Addr) (a : Direction) :
    (s.trainGshare d a).statRetired = s.statRetired := rfl
@[simp] theorem State.trainGshare_statBranches (d : Addr) (a : Direction) :
    (s.trainGshare d a).statBranches = s.statBranches := rfl
@[simp] theorem State.trainGshare_statMispred (d : Addr) (a : Direction) :
    (s.trainGshare d a).statMispred = s.statMispred := rfl

/-! The fields after the cycle counter (42_pipeline_tick.md R111). -/

@[simp] theorem State.countCycle_cfg : s.countCycle.cfg = s.cfg := rfl
@[simp] theorem State.countCycle_rst : s.countCycle.rst = s.rst := rfl
@[simp] theorem State.countCycle_trace : s.countCycle.trace = s.trace := rfl
@[simp] theorem State.countCycle_tsPos : s.countCycle.tsPos = s.tsPos := rfl
@[simp] theorem State.countCycle_latchFe : s.countCycle.latchFe = s.latchFe := rfl
@[simp] theorem State.countCycle_latchId : s.countCycle.latchId = s.latchId := rfl
@[simp] theorem State.countCycle_latchEx : s.countCycle.latchEx = s.latchEx := rfl
@[simp] theorem State.countCycle_latchMa : s.countCycle.latchMa = s.latchMa := rfl
@[simp] theorem State.countCycle_opidCtr : s.countCycle.opidCtr = s.opidCtr := rfl
@[simp] theorem State.countCycle_fetchStall : s.countCycle.fetchStall = s.fetchStall := rfl
@[simp] theorem State.countCycle_eosSeen : s.countCycle.eosSeen = s.eosSeen := rfl
@[simp] theorem State.countCycle_haltId : s.countCycle.haltId = s.haltId := rfl
@[simp] theorem State.countCycle_haltIdValid : s.countCycle.haltIdValid = s.haltIdValid := rfl
@[simp] theorem State.countCycle_halt : s.countCycle.halt = s.halt := rfl
@[simp] theorem State.countCycle_fatalError : s.countCycle.fatalError = s.fatalError := rfl
@[simp] theorem State.countCycle_pht : s.countCycle.pht = s.pht := rfl
@[simp] theorem State.countCycle_ghr : s.countCycle.ghr = s.ghr := rfl
@[simp] theorem State.countCycle_statCycles : s.countCycle.statCycles = s.statCycles + 1 := rfl
@[simp] theorem State.countCycle_statRetired : s.countCycle.statRetired = s.statRetired := rfl
@[simp] theorem State.countCycle_statBranches : s.countCycle.statBranches = s.statBranches := rfl
@[simp] theorem State.countCycle_statMispred : s.countCycle.statMispred = s.statMispred := rfl

/-! The fields after Memory (42_pipeline_tick.md R115). -/

@[simp] theorem State.memory_cfg : s.memory.cfg = s.cfg := rfl
@[simp] theorem State.memory_rst : s.memory.rst = s.rst := rfl
@[simp] theorem State.memory_trace : s.memory.trace = s.trace := rfl
@[simp] theorem State.memory_tsPos : s.memory.tsPos = s.tsPos := rfl
@[simp] theorem State.memory_latchFe : s.memory.latchFe = s.latchFe := rfl
@[simp] theorem State.memory_latchId : s.memory.latchId = s.latchId := rfl
@[simp] theorem State.memory_latchEx : s.memory.latchEx = s.latchEx := rfl
@[simp] theorem State.memory_latchMa : s.memory.latchMa = s.latchEx := rfl
@[simp] theorem State.memory_opidCtr : s.memory.opidCtr = s.opidCtr := rfl
@[simp] theorem State.memory_fetchStall : s.memory.fetchStall = s.fetchStall := rfl
@[simp] theorem State.memory_eosSeen : s.memory.eosSeen = s.eosSeen := rfl
@[simp] theorem State.memory_haltId : s.memory.haltId = s.haltId := rfl
@[simp] theorem State.memory_haltIdValid : s.memory.haltIdValid = s.haltIdValid := rfl
@[simp] theorem State.memory_halt : s.memory.halt = s.halt := rfl
@[simp] theorem State.memory_fatalError : s.memory.fatalError = s.fatalError := rfl
@[simp] theorem State.memory_pht : s.memory.pht = s.pht := rfl
@[simp] theorem State.memory_ghr : s.memory.ghr = s.ghr := rfl
@[simp] theorem State.memory_statCycles : s.memory.statCycles = s.statCycles := rfl
@[simp] theorem State.memory_statRetired : s.memory.statRetired = s.statRetired := rfl
@[simp] theorem State.memory_statBranches : s.memory.statBranches = s.statBranches := rfl
@[simp] theorem State.memory_statMispred : s.memory.statMispred = s.statMispred := rfl

/-! The fields after Execute (42_pipeline_tick.md R116). -/

@[simp] theorem State.execute_cfg : s.execute.cfg = s.cfg := rfl
@[simp] theorem State.execute_rst : s.execute.rst = s.rst := rfl
@[simp] theorem State.execute_trace : s.execute.trace = s.trace := rfl
@[simp] theorem State.execute_tsPos : s.execute.tsPos = s.tsPos := rfl
@[simp] theorem State.execute_latchFe : s.execute.latchFe = s.latchFe := rfl
@[simp] theorem State.execute_latchId : s.execute.latchId = s.latchId := rfl
@[simp] theorem State.execute_latchEx : s.execute.latchEx = s.latchId.map executeSlot := rfl
@[simp] theorem State.execute_latchMa : s.execute.latchMa = s.latchMa := rfl
@[simp] theorem State.execute_opidCtr : s.execute.opidCtr = s.opidCtr := rfl
@[simp] theorem State.execute_fetchStall : s.execute.fetchStall = s.fetchStall := rfl
@[simp] theorem State.execute_eosSeen : s.execute.eosSeen = s.eosSeen := rfl
@[simp] theorem State.execute_haltId : s.execute.haltId = s.haltId := rfl
@[simp] theorem State.execute_haltIdValid : s.execute.haltIdValid = s.haltIdValid := rfl
@[simp] theorem State.execute_halt : s.execute.halt = s.halt := rfl
@[simp] theorem State.execute_fatalError : s.execute.fatalError = s.fatalError := rfl
@[simp] theorem State.execute_pht : s.execute.pht = s.pht := rfl
@[simp] theorem State.execute_ghr : s.execute.ghr = s.ghr := rfl
@[simp] theorem State.execute_statCycles : s.execute.statCycles = s.statCycles := rfl
@[simp] theorem State.execute_statRetired : s.execute.statRetired = s.statRetired := rfl
@[simp] theorem State.execute_statBranches : s.execute.statBranches = s.statBranches := rfl
@[simp] theorem State.execute_statMispred : s.execute.statMispred = s.statMispred := rfl

/-! The fields after Decode (43_hazard_detector.md R143). -/

@[simp] theorem State.decode_cfg : s.decode.cfg = s.cfg := rfl
@[simp] theorem State.decode_rst : s.decode.rst = s.rst := rfl
@[simp] theorem State.decode_trace : s.decode.trace = s.trace := rfl
@[simp] theorem State.decode_tsPos : s.decode.tsPos = s.tsPos := rfl
@[simp] theorem State.decode_latchFe : s.decode.latchFe = s.latchFe := rfl
@[simp] theorem State.decode_latchId : s.decode.latchId =
      decodeLatch s.cfg (decodeCopy s.latchFe) s.latchEx s.latchMa := rfl
@[simp] theorem State.decode_latchEx : s.decode.latchEx = s.latchEx := rfl
@[simp] theorem State.decode_latchMa : s.decode.latchMa = s.latchMa := rfl
@[simp] theorem State.decode_opidCtr : s.decode.opidCtr = s.opidCtr := rfl
@[simp] theorem State.decode_fetchStall : s.decode.fetchStall = s.fetchStall := rfl
@[simp] theorem State.decode_eosSeen : s.decode.eosSeen = s.eosSeen := rfl
@[simp] theorem State.decode_haltId : s.decode.haltId = s.haltId := rfl
@[simp] theorem State.decode_haltIdValid : s.decode.haltIdValid = s.haltIdValid := rfl
@[simp] theorem State.decode_halt : s.decode.halt = s.halt := rfl
@[simp] theorem State.decode_fatalError : s.decode.fatalError = s.fatalError := rfl
@[simp] theorem State.decode_pht : s.decode.pht = s.pht := rfl
@[simp] theorem State.decode_ghr : s.decode.ghr = s.ghr := rfl
@[simp] theorem State.decode_statCycles : s.decode.statCycles = s.statCycles := rfl
@[simp] theorem State.decode_statRetired : s.decode.statRetired = s.statRetired := rfl
@[simp] theorem State.decode_statBranches : s.decode.statBranches = s.statBranches := rfl
@[simp] theorem State.decode_statMispred : s.decode.statMispred = s.statMispred := rfl

/-! The lane being filled (44_fetch_branch_resolution.md R170). -/

@[simp] theorem State.firstLane_lane : s.firstLane.lane = 0 := rfl
@[simp] theorem State.advance_lane : s.advance.lane = s.lane := rfl
@[simp] theorem State.fillLane_lane (x : Slot) : (s.fillLane x).lane = s.lane + 1 :=
  List.length_append
@[simp] theorem State.placeRecord_lane (i : Instr) (m : Bool) :
    (s.placeRecord i m).lane = s.lane + 1 := List.length_append

end Sys2Proof.Machine
end

