-- ==== Sys2Proof/Laws/Stages.lean ====
section
/-!
SUPPORT. What the stages before Fetch can do, said once (42_pipeline_tick.md R111 to R116): Write-Back
and the tick up to Fetch in closed form, and what Decode's stall flags depend on.
-/

namespace Sys2Proof.Machine

/-- Some valid slot of a latch carries the misprediction mark. -/
abbrev mispredRetires (latch : List Slot) : Bool := latch.any fun x => x.valid && x.isMispred

/-- Some valid slot of a latch carries this `op_id`. -/
abbrev opIdRetires (latch : List Slot) (n : Nat) : Bool :=
  latch.any fun x => x.valid && decide (x.opId = n)

theorem State.foldl_retire : ∀ (l : List Slot) (s : State),
    l.foldl State.retire s =
      { s with
        statRetired := s.statRetired + l.countP (fun x => x.valid)
        fetchStall := s.fetchStall && !mispredRetires l
        halt := s.halt || (s.haltIdValid && opIdRetires l s.haltId) }
  | [], s => by simp
  | x :: l, s => by
    rw [List.foldl_cons, State.foldl_retire l]
    unfold State.retire
    cases hv : x.valid
    · simp [hv]
    · cases hm : x.isMispred <;> cases hi : s.haltIdValid <;>
        simp [hv, hm, Nat.add_assoc, Nat.add_comm 1, Bool.or_assoc]

/-- Write-Back in closed form: it counts, releases the fetch-stall and halts; nothing else changes. -/
theorem State.writeBack_eq (s : State) :
    s.writeBack =
      { s with
        statRetired := s.statRetired + s.latchMa.countP (fun x => x.valid)
        fetchStall := s.fetchStall && !mispredRetires s.latchMa
        halt := s.halt || (s.haltIdValid && opIdRetires s.latchMa s.haltId) } :=
  State.foldl_retire s.latchMa s

/-- The Decode latch a tick leaves. -/
abbrev State.newId (s : State) : List Slot :=
  decodeLatch s.cfg (decodeCopy s.latchFe) (s.latchId.map executeSlot) s.latchEx

/-- A tick up to Fetch in closed form. -/
theorem State.beforeFetch_eq (s : State) :
    s.beforeFetch =
      { s with
        statCycles := s.statCycles + 1
        statRetired := s.statRetired + s.latchMa.countP (fun x => x.valid)
        fetchStall := s.fetchStall && !mispredRetires s.latchMa
        halt := s.halt || (s.haltIdValid && opIdRetires s.latchMa s.haltId)
        latchMa := s.latchEx
        latchEx := s.latchId.map executeSlot
        latchId := s.newId } := by
  simp only [State.beforeFetch, State.writeBack_eq, State.countCycle, State.memory, State.execute,
    State.decode]

theorem decodeCopy_length (l : List Slot) : (decodeCopy l).length = l.length := by
  simp [decodeCopy]

theorem decodeLatch_length (cfg : Config) (d ex ma : List Slot) :
    (decodeLatch cfg d ex ma).length = d.length := by
  simp [decodeLatch]

/-- A Decode slot is the Fetch slot at its lane with a computed stall flag. -/
theorem decodeLatch_getElem? (cfg : Config) (fe ex ma : List Slot) (l : Nat) :
    (decodeLatch cfg (decodeCopy fe) ex ma)[l]? =
      fe[l]?.map fun x =>
        { x with stall := stallOf cfg (decodeCopy fe) ex ma { x with stall := false } } := by
  simp only [decodeLatch, decodeCopy, List.getElem?_map, Option.map_map]
  rfl

/-- A stalled slot of a Decode latch is valid (43_hazard_detector.md R139). -/
theorem valid_of_stallOf {cfg : Config} {d ex ma : List Slot} {c : Slot}
    (h : stallOf cfg d ex ma c = true) : c.valid = true := by
  simp only [stallOf, Bool.and_eq_true] at h
  exact h.1

/-- A lane with a hazard of its own stalls (43_hazard_detector.md R136). -/
theorem stallOf_of_preStall {cfg : Config} {d ex ma : List Slot} {c : Slot}
    (h : preStall cfg d ex ma c = true) : stallOf cfg d ex ma c = true := by
  have hv : c.valid = true := by
    simp only [preStall, Bool.and_eq_true] at h
    exact h.1
  simp [stallOf, hv, h]

/-- A lane stalls exactly when it is valid and it, or an older valid lane, has a hazard of its own
(43_hazard_detector.md R138). -/
theorem stallOf_iff {cfg : Config} {d ex ma : List Slot} {c : Slot} :
    stallOf cfg d ex ma c = true ↔
      c.valid = true ∧ (preStall cfg d ex ma c = true ∨
        ∃ j ∈ d, j.valid = true ∧ j.opId < c.opId ∧ preStall cfg d ex ma j = true) := by
  simp only [stallOf, Bool.and_eq_true, Bool.or_eq_true, List.any_eq_true, decide_eq_true_eq,
    and_assoc]

/-- No stall flag of a slot is read by the hazard checks (43_hazard_detector.md R141): they are the same
for the slot with any stall flag. -/
theorem preStall_stall (cfg : Config) (d ex ma : List Slot) (c : Slot) (b : Bool) :
    preStall cfg d ex ma { c with stall := b } = preStall cfg d ex ma c := rfl

theorem stallOf_stall (cfg : Config) (d ex ma : List Slot) (c : Slot) (b : Bool) :
    stallOf cfg d ex ma { c with stall := b } = stallOf cfg d ex ma c := rfl

/-- Membership in the colliding producers of a later latch (43_hazard_detector.md R133). -/
theorem mem_colliders {latch : List Slot} {c p : Slot} :
    p ∈ colliders latch c ↔
      p ∈ latch ∧ p.valid = true ∧ p.opId ≤ c.opId ∧ collide c p = true := by
  simp only [colliders, List.mem_filter, Bool.and_eq_true, decide_eq_true_eq, and_assoc]

/-- The ID-source hazard (43_hazard_detector.md R132). -/
theorem idHazard_iff {latch : List Slot} {c : Slot} :
    idHazard latch c = true ↔
      ∃ p ∈ latch, p.valid = true ∧ p.opId < c.opId ∧ collide c p = true := by
  simp only [idHazard, List.any_eq_true, Bool.and_eq_true, decide_eq_true_eq, and_assoc]

/-- The EX-source and MA-source hazards (43_hazard_detector.md R133, R134). -/
theorem laterHazard_iff {latch : List Slot} {c : Slot} :
    laterHazard latch c = true ↔
      ∃ p ∈ latch, p.valid = true ∧ p.opId ≤ c.opId ∧ collide c p = true := by
  rw [laterHazard, Bool.not_eq_true', List.isEmpty_eq_false_iff_exists_mem]
  simp only [mem_colliders]

end Sys2Proof.Machine
end

