-- ==== Sys2Proof/Laws/Fetch.lean ====
section
/-!
SUPPORT. What running a record, filling a lane, Fetch and one edge can do, said once
(44_fetch_branch_resolution.md R160 to R170): provers cite these and do not unfold `exec`, `fetchLane`
or `edge`.
-/

namespace Sys2Proof.Machine

/-- `update` touches the predictor's four elements only (20_memory.md R54). -/
theorem State.update_eq (s : State) (d : Addr) (p a : Direction) :
    s.update d p a =
      { s with
        statBranches := s.statBranches + 1
        statMispred := if p = a then s.statMispred else s.statMispred + 1
        pht := match s.cfg.policy with
          | .gshare =>
            s.pht.write (phtIndex d s.ghr) (trainCounter a (s.pht.read (phtIndex d s.ghr)))
          | .perfect => s.pht
        ghr := match s.cfg.policy with
          | .gshare => shiftHistory s.ghr a
          | .perfect => s.ghr } := by
  unfold State.update
  cases s.cfg.policy <;> rfl

/-- What running a record can do: it is placed as it is, or it is a CBR under GSHARE and is resolved
first. -/
theorem exec_cases (i : Instr) (s : State) :
    exec i s = .next (s.placeRecord i false) ∨
      ∃ f, i = .cbr f ∧ s.cfg.policy = .gshare ∧
        exec i s = .next ((s.resolveBranch f).2.placeRecord i (s.resolveBranch f).1) := by
  cases i with
  | alu f => exact .inl rfl
  | load f => exact .inl rfl
  | store f => exact .inl rfl
  | other f => exact .inl rfl
  | cbr f =>
    simp only [exec, execCbr]
    cases s.cfg.policy with
    | perfect => exact .inl rfl
    | gshare => exact .inr ⟨f, rfl, rfl, rfl⟩

/-- What no lane of Fetch touches, in one relation: the configuration, the pins, the trace, the later
latches, `halt`, and the two counters Fetch does not own (20_memory.md R54). -/
structure FetchFrame (s t : State) : Prop where
  cfg : t.cfg = s.cfg
  rst : t.rst = s.rst
  responses : t.trace = s.trace
  latchId : t.latchId = s.latchId
  latchEx : t.latchEx = s.latchEx
  latchMa : t.latchMa = s.latchMa
  halt : t.halt = s.halt
  statCycles : t.statCycles = s.statCycles
  statRetired : t.statRetired = s.statRetired

theorem FetchFrame.refl (s : State) : FetchFrame s s :=
  ⟨rfl, rfl, rfl, rfl, rfl, rfl, rfl, rfl, rfl⟩

theorem FetchFrame.trans {s t u : State} (h : FetchFrame s t) (k : FetchFrame t u) :
    FetchFrame s u :=
  ⟨k.cfg.trans h.cfg, k.rst.trans h.rst, k.responses.trans h.responses,
    k.latchId.trans h.latchId, k.latchEx.trans h.latchEx, k.latchMa.trans h.latchMa,
    k.halt.trans h.halt, k.statCycles.trans h.statCycles, k.statRetired.trans h.statRetired⟩

/-- Running a record answers a next state, in the frame, with one `op_id` given and the next lane
written. -/
theorem exec_spec (i : Instr) (s : State) :
    ∃ t m, exec i s = .next t ∧ FetchFrame s t ∧ t.tsPos = s.tsPos ∧
      t.opidCtr = s.opidCtr + 1 ∧
      t.latchFe = s.latchFe ++
        [{ record := i, opId := s.opidCtr + 1, valid := true, stall := false, isMispred := m }] ∧
      t.fetchStall = (s.fetchStall || m) ∧ t.eosSeen = s.eosSeen ∧ t.haltId = s.haltId ∧
      t.haltIdValid = s.haltIdValid ∧ t.fatalError = s.fatalError := by
  rcases exec_cases i s with h | ⟨f, rfl, hp, h⟩
  · exact ⟨_, false, h, ⟨rfl, rfl, rfl, rfl, rfl, rfl, rfl, rfl, rfl⟩, rfl, rfl, rfl,
      (Bool.or_false _).symm, rfl, rfl, rfl, rfl⟩
  · refine ⟨_, (s.resolveBranch f).1, h, ?_⟩
    simp only [State.resolveBranch, State.update_eq]
    exact ⟨⟨rfl, rfl, rfl, rfl, rfl, rfl, rfl, rfl, rfl⟩, rfl, rfl, rfl, rfl, rfl, rfl, rfl, rfl⟩

/-- What one lane of Fetch can do: the four cases of 44_fetch_branch_resolution.md R161 to R164. -/
theorem State.fetchLane_cases (old : List Slot) (s : State) :
    (s.laneStalled = true ∧ s.fetchLane old = .next (s.fillLane (slotAt old s.lane))) ∨
    (s.laneStalled = false ∧ (s.fetchStall = true ∨ s.eosSeen = true) ∧
      s.fetchLane old = .next (s.fillLane bubble)) ∨
    (s.laneStalled = false ∧ s.fetchStall = false ∧ s.eosSeen = false ∧
      ((∃ i, s.nextResponse = .record i ∧ s.fetchLane old = exec i s.advance) ∨
       (s.nextResponse = .endOfStream ∧ s.fetchLane old = .next (s.recordEnd.fillLane bubble)) ∨
       (s.nextResponse = .malformed ∧
        s.fetchLane old = .next (s.raiseMalformed.fillLane bubble)))) := by
  unfold State.fetchLane
  cases h1 : s.laneStalled
  · cases h2 : s.fetchStall
    · cases h3 : s.eosSeen
      · refine .inr (.inr ⟨rfl, rfl, rfl, ?_⟩)
        simp only [Bool.false_eq_true, if_false, State.fetchAttempt]
        cases s.nextResponse with
        | record i => exact .inl ⟨i, rfl, rfl⟩
        | endOfStream => exact .inr (.inl ⟨rfl, rfl⟩)
        | malformed => exact .inr (.inr ⟨rfl, rfl⟩)
      · exact .inr (.inl ⟨rfl, .inr rfl, rfl⟩)
    · exact .inr (.inl ⟨rfl, .inl rfl, rfl⟩)
  · exact .inl ⟨rfl, rfl⟩

/-- One lane of Fetch answers a next state, in the frame, with one more lane written. -/
theorem State.fetchLane_spec (old : List Slot) (s : State) :
    ∃ t x, s.fetchLane old = .next t ∧ FetchFrame s t ∧ t.latchFe = s.latchFe ++ [x] := by
  rcases s.fetchLane_cases old with ⟨-, h⟩ | ⟨-, -, h⟩ | ⟨-, -, -, ⟨i, -, h⟩ | ⟨-, h⟩ | ⟨-, h⟩⟩
  · exact ⟨_, _, h, ⟨rfl, rfl, rfl, rfl, rfl, rfl, rfl, rfl, rfl⟩, rfl⟩
  · exact ⟨_, _, h, ⟨rfl, rfl, rfl, rfl, rfl, rfl, rfl, rfl, rfl⟩, rfl⟩
  · obtain ⟨t, m, he, hf, -, -, hl, -⟩ := exec_spec i s.advance
    exact ⟨t, _, h.trans he, ⟨hf.cfg, hf.rst, hf.responses, hf.latchId, hf.latchEx, hf.latchMa,
      hf.halt, hf.statCycles, hf.statRetired⟩, hl⟩
  · exact ⟨_, _, h, ⟨rfl, rfl, rfl, rfl, rfl, rfl, rfl, rfl, rfl⟩, rfl⟩
  · exact ⟨_, _, h, ⟨rfl, rfl, rfl, rfl, rfl, rfl, rfl, rfl, rfl⟩, rfl⟩

/-- A relation that holds over one lane and composes holds over any number of lanes: the one
induction over the lanes of Fetch. -/
theorem fetchLanes_induction {old : List Slot} {R : State → State → Prop} (refl : ∀ s, R s s)
    (trans : ∀ {s t u}, R s t → R t u → R s u)
    (lane : ∀ {s t}, s.fetchLane old = .next t → R s t) :
    ∀ {k : Nat} {s t : State}, fetchLanes old k s = .next t → R s t
  | 0, s, t, h => by
    cases h
    exact refl s
  | k + 1, s, t, h => by
    obtain ⟨u, x, hu, -, -⟩ := s.fetchLane_spec old
    rw [fetchLanes, hu] at h
    exact trans (lane hu) (fetchLanes_induction refl trans lane h)

/-- The lanes of Fetch answer a next state, in the frame, with that many more lanes written and those
written before left as they are. -/
theorem fetchLanes_spec (old : List Slot) : ∀ (k : Nat) (s : State),
    ∃ t xs, fetchLanes old k s = .next t ∧ FetchFrame s t ∧ t.latchFe = s.latchFe ++ xs ∧
      xs.length = k
  | 0, s => ⟨s, [], rfl, FetchFrame.refl s, by simp, rfl⟩
  | k + 1, s => by
    obtain ⟨u, x, hu, hf, hl⟩ := s.fetchLane_spec old
    obtain ⟨t, xs, ht, hg, hm, hk⟩ := fetchLanes_spec old k u
    refine ⟨t, x :: xs, ?_, hf.trans hg, by simp [hm, hl], by simp [hk]⟩
    rw [fetchLanes, hu]
    exact ht

/-- Fetch answers a next state, in the frame, whose Fetch latch has N lanes. -/
theorem State.fetch_spec (s : State) :
    ∃ t, s.fetch = .next t ∧ FetchFrame s t ∧ t.latchFe.length = s.cfg.n := by
  obtain ⟨t, xs, ht, hf, hl, hk⟩ := fetchLanes_spec s.latchFe s.cfg.n s.firstLane
  exact ⟨t, ht, ⟨hf.cfg, hf.rst, hf.responses, hf.latchId, hf.latchEx, hf.latchMa, hf.halt,
    hf.statCycles, hf.statRetired⟩, by simp [hl, hk]⟩

/-- One edge (70_reset_and_hazards.md R200, 42_pipeline_tick.md R119): what it can answer. -/
theorem State.edge_cases {s t : State} (h : step s = .next t) :
    s.cfg.n ≠ 0 ∧
      ((s.rst = true ∧ t = s.resetEdge) ∨
       (s.rst = false ∧ s.halt = true ∧ t = s) ∨
       (s.rst = false ∧ s.halt = false ∧ s.tick = .next t)) := by
  unfold step State.edge at h
  split at h
  · cases h
  · next hn =>
    refine ⟨hn, ?_⟩
    cases hr : s.rst <;> simp only [hr, if_true, Bool.false_eq_true, if_false] at h
    · cases hh : s.halt <;> simp only [hh, if_true, Bool.false_eq_true, if_false] at h
      · exact .inr (.inr ⟨rfl, rfl, h⟩)
      · cases h
        exact .inr (.inl ⟨rfl, rfl, rfl⟩)
    · cases h
      exact .inl ⟨rfl, rfl⟩

/-- A ticking instance ticks. -/
theorem step_of_tick {s : State} (hn : 0 < s.cfg.n) (hr : s.rst = false) (hh : s.halt = false) :
    step s = s.tick := by
  simp [step, State.edge, Nat.ne_of_gt hn, hr, hh]

/-- A tick is Fetch's lanes on the state the other stages leave, which do not change the Fetch latch. -/
theorem State.tick_eq (s : State) :
    s.tick = fetchLanes s.latchFe s.cfg.n s.beforeFetch.firstLane := by
  simp only [State.tick, State.fetch, State.beforeFetch_eq]

end Sys2Proof.Machine
end

