-- ==== Sys2Proof/Laws/PerInstr.lean ====
section
/-!
SUPPORT. The per-instruction family EncodedKind: what the decoder looks at first in the word of a record
(30_encoding.md R61, R67), one lemma a constructor.
-/

namespace Sys2Proof.Laws.EncodedKind

/-- The word of a record carries the code of its kind, its reserved bits are 0, and so it is a legal
word. -/
def Statement (i : Instr) : Prop :=
  wordKind (encode i) = BitVec.ofNat 8 i.kindCode ∧ wordReserved (encode i) = 0#2 ∧
    wordWellFormed (encode i) = true

/-- Bits 71:64 of the word are the code of the kind. -/
theorem kind_encode (i : Instr) : wordKind (encode i) = BitVec.ofNat 8 i.kindCode := by
  ext b hb
  simp only [wordKind, encode, BitVec.getElem_extractLsb', BitVec.getLsbD_append]
  simp [hb]

/-- Bits 103:102 of the word are 0. -/
theorem reserved_encode (i : Instr) : wordReserved (encode i) = 0#2 := by
  ext b hb
  simp only [wordReserved, encode, BitVec.getElem_extractLsb', BitVec.getLsbD_append]
  interval_cases b <;> simp

/-- Every record has a kind code of at most 4, so the two fields above decide the rest. -/
theorem of_kindCode (i : Instr) (h : i.kindCode ≤ 4) : Statement i := by
  refine ⟨kind_encode i, reserved_encode i, ?_⟩
  simp [wordWellFormed, kind_encode, reserved_encode, Nat.mod_eq_of_lt (show i.kindCode < 256 by omega), h]

theorem alu (f : RecordFields) : Statement (.alu f) := of_kindCode _ (by simp [Instr.kindCode])

theorem load (f : RecordFields) : Statement (.load f) := of_kindCode _ (by simp [Instr.kindCode])

theorem store (f : RecordFields) : Statement (.store f) := of_kindCode _ (by simp [Instr.kindCode])

theorem cbr (f : RecordFields) : Statement (.cbr f) := of_kindCode _ (by simp [Instr.kindCode])

theorem other (f : RecordFields) : Statement (.other f) := of_kindCode _ (by simp [Instr.kindCode])

end Sys2Proof.Laws.EncodedKind
end

