-- ==== Sys2Proof/Laws/Pht.lean ====
section
/-!
SUPPORT. The pattern history table: reading after a write, and the canonical form kept by every
operation (20_memory.md R40, R46; log 9).
-/

namespace Sys2Proof.Machine

theorem Pht.read_cons (k : Nat) (c : Counter) (t : Pht) (j : Nat) :
    Pht.read ((k, c) :: t) j = if k = j then c else Pht.read t j := rfl

theorem Pht.wfAbove_cons {low k : Nat} {c : Counter} {t : Pht} :
    Pht.wfAbove low ((k, c) :: t) = true ↔
      low ≤ k ∧ k < Config.phtEntries ∧ c ≠ Config.ctrReset ∧ Pht.wfAbove (k + 1) t = true := by
  simp only [Pht.wfAbove, Bool.and_eq_true, decide_eq_true_eq, and_assoc]

theorem Pht.wfAbove_mono {low low' : Nat} (h : low' ≤ low) :
    ∀ {p : Pht}, p.wfAbove low = true → p.wfAbove low' = true
  | [], _ => rfl
  | (k, c) :: t, hp => by
    rw [Pht.wfAbove_cons] at hp ⊢
    exact ⟨h.trans hp.1, hp.2⟩

theorem Pht.read_of_lt_wfAbove {idx : Nat} :
    ∀ {low : Nat} {p : Pht}, p.wfAbove low = true → idx < low → p.read idx = Config.ctrReset
  | _, [], _, _ => rfl
  | low, (k, c) :: t, hp, hi => by
    rw [Pht.wfAbove_cons] at hp
    rw [Pht.read_cons, if_neg (by omega)]
    exact Pht.read_of_lt_wfAbove hp.2.2.2 (by omega)

/-- What a table reads after a write, at the written index and everywhere else. -/
theorem Pht.read_write {idx : Nat} {v : Counter} (j : Nat) :
    ∀ {low : Nat} {p : Pht}, p.wfAbove low = true →
      (p.write idx v).read j = if j = idx then v else p.read j
  | _, [], _ => by
    rw [Pht.write]
    split
    · next hv => split <;> simp_all [Pht.read]
    · rw [Pht.read_cons]
      simp only [eq_comm]
  | low, (k, c) :: t, hp => by
    rw [Pht.wfAbove_cons] at hp
    obtain ⟨h1, h2, h3, h4⟩ := hp
    have ht := Pht.read_write (idx := idx) (v := v) j h4
    have hlow : ∀ i, i ≤ k → Pht.read t i = Config.ctrReset := fun i hi =>
      Pht.read_of_lt_wfAbove h4 (by omega)
    rw [Pht.write]
    split
    · next hlt =>
      split
      · next hv =>
        rw [Pht.read_cons]
        split
        · next hj => rw [if_neg (by omega)]
        · split
          · next hj => rw [hj, hlow idx (by omega), hv]
          · rfl
      · rw [Pht.read_cons]
        simp only [eq_comm]
    · split
      · next hge heq =>
        subst heq
        split
        · next hv =>
          rw [Pht.read_cons]
          split
          · next hj => rw [hj, hlow idx (by omega), hv]
          · next hj => rw [if_neg (fun h => hj h.symm)]
        · rw [Pht.read_cons, Pht.read_cons]
          by_cases hj : idx = j
          · rw [if_pos hj, if_pos hj.symm]
          · rw [if_neg hj, if_neg (fun h => hj h.symm), if_neg hj]
      · next hge hne =>
        rw [Pht.read_cons, Pht.read_cons, ht]
        by_cases hk : k = j
        · rw [if_pos hk, if_pos hk, if_neg (by omega)]
        · rw [if_neg hk, if_neg hk]

theorem Pht.wfAbove_write {idx : Nat} {v : Counter} (hi : idx < Config.phtEntries) :
    ∀ {low : Nat} {p : Pht}, low ≤ idx → p.wfAbove low = true → (p.write idx v).wfAbove low = true
  | low, [], hl, _ => by
    rw [Pht.write]
    split
    · rfl
    · next hv => exact Pht.wfAbove_cons.mpr ⟨hl, hi, hv, rfl⟩
  | low, (k, c) :: t, hl, hp => by
    have hw := hp
    rw [Pht.wfAbove_cons] at hp
    obtain ⟨h1, h2, h3, h4⟩ := hp
    rw [Pht.write]
    split
    · split
      · exact hw
      · next hlt hv =>
        exact Pht.wfAbove_cons.mpr ⟨hl, hi, hv, Pht.wfAbove_cons.mpr ⟨hlt, h2, h3, h4⟩⟩
    · split
      · next hge heq =>
        subst heq
        split
        · exact Pht.wfAbove_mono (by omega) h4
        · next hv => exact Pht.wfAbove_cons.mpr ⟨hl, hi, hv, h4⟩
      · next hge hne =>
        exact Pht.wfAbove_cons.mpr ⟨h1, h2, h3, Pht.wfAbove_write hi (by omega) h4⟩

/-- Every write at an index of the table keeps the canonical form. -/
theorem Pht.wf_write {p : Pht} {idx : Nat} (v : Counter) (hi : idx < Config.phtEntries)
    (hp : p.wf = true) : (p.write idx v).wf = true :=
  Pht.wfAbove_write hi (Nat.zero_le _) hp

/-- An index never leaves the table (20_memory.md R41). -/
theorem phtIndex_lt (addr : Addr) (ghr : History) : phtIndex addr ghr < Config.phtEntries := by
  unfold phtIndex Config.phtEntries
  rw [BitVec.toNat_and]
  exact Nat.lt_succ_of_le Nat.and_le_right

/-- Training keeps the canonical form. -/
theorem State.trainGshare_wf {s : State} (addr : Addr) (a : Direction) (h : s.pht.wf = true) :
    (s.trainGshare addr a).pht.wf = true :=
  Pht.wf_write _ (phtIndex_lt _ _) h

/-- `update` keeps the canonical form (41_branch_predictor.md R96 to R99). -/
theorem State.update_wf {s : State} (addr : Addr) (p a : Direction) (h : s.pht.wf = true) :
    (s.update addr p a).pht.wf = true := by
  unfold State.update
  split
  · exact State.trainGshare_wf (s := s.countBranch p a) addr a h
  · exact h

/-- Two canonical tables that read the same everywhere are the same list (log 9). -/
theorem Pht.ext_wfAbove : ∀ {low : Nat} {p q : Pht}, p.wfAbove low = true → q.wfAbove low = true →
    (∀ idx, p.read idx = q.read idx) → p = q
  | _, [], [], _, _, _ => rfl
  | _, [], (k, c) :: t, _, hq, h => by
    have := h k
    rw [Pht.read_cons, if_pos rfl] at this
    exact absurd this.symm (Pht.wfAbove_cons.mp hq).2.2.1
  | _, (k, c) :: t, [], hp, _, h => by
    have := h k
    rw [Pht.read_cons, if_pos rfl] at this
    exact absurd this (Pht.wfAbove_cons.mp hp).2.2.1
  | low, (k, c) :: t, (k', c') :: t', hp, hq, h => by
    rw [Pht.wfAbove_cons] at hp hq
    obtain ⟨-, -, hc, hp⟩ := hp
    obtain ⟨-, -, hc', hq⟩ := hq
    have hkk : k = k' := by
      rcases Nat.lt_trichotomy k k' with hlt | heq | hgt
      · have := h k
        rw [Pht.read_cons, if_pos rfl, Pht.read_cons, if_neg (by omega),
          Pht.read_of_lt_wfAbove hq (by omega)] at this
        exact absurd this hc
      · exact heq
      · have := h k'
        rw [Pht.read_cons, if_neg (by omega), Pht.read_cons, if_pos rfl,
          Pht.read_of_lt_wfAbove hp (by omega)] at this
        exact absurd this.symm hc'
    subst hkk
    have hcc : c = c' := by
      have := h k
      rwa [Pht.read_cons, if_pos rfl, Pht.read_cons, if_pos rfl] at this
    subst hcc
    refine congrArg ((k, c) :: ·) (Pht.ext_wfAbove hp hq fun idx => ?_)
    by_cases hk : k = idx
    · rw [Pht.read_of_lt_wfAbove hp (by omega), Pht.read_of_lt_wfAbove hq (by omega)]
    · have := h idx
      rwa [Pht.read_cons, if_neg hk, Pht.read_cons, if_neg hk] at this

end Sys2Proof.Machine
end

