-- ==== Sys2Proof/Machine/Notation.lean ====
section
/-!
DEFINITION. The one-line text notation of a record (30_encoding.md R69), which the spec uses in its
examples. The machine does not read it.
-/

namespace Sys2Proof.Machine

/-- The kind's name (30_encoding.md R69). -/
def kindName : Instr → String
  | .alu _ => "ALU"
  | .load _ => "LOAD"
  | .store _ => "STORE"
  | .cbr _ => "CBR"
  | .other _ => "OTHER"

/-- A register operand after its tag; nothing where the operand is absent. -/
def operandText (tag : String) : Option RegId → String
  | none => ""
  | some r => " " ++ tag ++ "=r" ++ toString r.toNat

/-- `<KIND> [d=r<k>] [s1=r<k>] [s2=r<k>] [ccr] [ccw] [T|N] [@<hex addr>]` (30_encoding.md R69). A CBR
shows T or N; another kind shows T only. An address of 0 is left out. -/
def recordText (i : Instr) : String :=
  let f := i.fields
  kindName i ++ operandText "d" (destOperand f) ++ operandText "s1" (src1Operand f) ++
    operandText "s2" (src2Operand f) ++ (if f.ccRead then " ccr" else "") ++
    (if f.ccWrite then " ccw" else "") ++
    (match f.brDir with
      | .taken => " T"
      | .notTaken => if isCbr i then " N" else "") ++
    (if f.addr = 0 then "" else " @0x" ++ String.ofList (Nat.toDigits 16 f.addr.toNat))

/-- `EOS` and `BAD` stand for the other two responses (30_encoding.md R69). -/
def responseText : Response → String
  | .record i => recordText i
  | .endOfStream => "EOS"
  | .malformed => "BAD"

end Sys2Proof.Machine
end

