-- ==== Sys2Proof/Tests/Slice0.lean ====
section
/-!
SUPPORT. Tests of the model, then one witness for the hypotheses of every statement that has some. The
expected values are the spec's: each test names the vector of 95_test_vectors.md or the rule it
was worked from by hand.
-/

namespace Sys2Proof.Tests

open Sys2Proof Sys2Proof.Machine

/-! Helpers. -/

/-- A record's fields with the operands given as in the notation of 30_encoding.md R69. -/
def fieldsOf (d s1 s2 : Option RegId) (ccr ccw : Bool) : RecordFields :=
  { RecordFields.zero with
    dest := d.getD 0, destNeeded := d.isSome, src1 := s1.getD 0, src1Needed := s1.isSome,
    src2 := s2.getD 0, src2Needed := s2.isSome, ccRead := ccr, ccWrite := ccw }

/-- A valid, unstalled slot. -/
def slotOf (i : Instr) (id : Nat) : Slot :=
  { record := i, opId := id, valid := true, stall := false, isMispred := false }

/-- A producer of r1 and its consumer. -/
def aluR1 : Instr := .alu (fieldsOf (some 1) none none false false)
def loadR1 : Instr := .load (fieldsOf (some 1) none none false false)
def useR1 : Instr := .alu (fieldsOf none (some 1) none false false)

/-- A conditional branch at `addr`. -/
def branch (dir : Direction) (addr : Addr) : Instr :=
  .cbr { RecordFields.zero with brDir := dir, addr := addr }

def plain : Instr := .other RecordFields.zero

/-- An instance with the spec's own readings. -/
def instanceOf (n : Nat) (p : Policy) (ex ma : Bool) : Config :=
  { n := n, policy := p, fwdEx := ex, fwdMa := ma }

def gshare1 : Config := instanceOf 1 .gshare true true
def gshare2 : Config := instanceOf 2 .gshare true true
def perfect1 : Config := instanceOf 1 .perfect true true

/-- The state after reset with a trace of records. -/
def fresh (cfg : Config) (records : List Instr) : State :=
  State.resetWith cfg (recordTrace records)

/-- A Boolean question about the next state; false where there is none. -/
def nextHas (o : Host.Outcome State Fault Refusal) (q : State → Bool) : Bool :=
  match o with
  | .next t => q t
  | .fault _ => false
  | .refused _ => false

/-! Decoding: words written out from 30_encoding.md R60 and R61 (V1, V3, V4). -/

/-- V1, first row. -/
theorem test_decode_alu :
    decodeRecord 0x07030201000000000000001000#104 =
      .ok (.alu { fieldsOf (some 1) (some 2) (some 3) false false with addr := 0x1000 }) := by
  decide

/-- V1, second row. -/
theorem test_decode_load :
    decodeRecord 0x03000501010000000000002000#104 =
      .ok (.load { fieldsOf (some 1) (some 5) none false false with addr := 0x2000 }) := by
  decide

/-- V1, third row. -/
theorem test_decode_store :
    decodeRecord 0x06050200020000000000002008#104 =
      .ok (.store { fieldsOf none (some 2) (some 5) false false with addr := 0x2008 }) := by
  decide

/-- V1, fifth row. -/
theorem test_decode_cbr :
    decodeRecord 0x22000400030000000000000410#104 =
      .ok (.cbr { fieldsOf none (some 4) none false false with addr := 0x410, brDir := .taken }) := by
  decide

/-- V1, sixth row. -/
theorem test_decode_other :
    decodeRecord 0x00000000040000000000001008#104 =
      .ok (.other { RecordFields.zero with addr := 0x1008 }) := by
  decide

/-- V1, last row: every id at an extreme, both condition-code bits. -/
theorem test_decode_extremes :
    decodeRecord 0x1f8000ff00ffffffffffffffff#104 =
      .ok (.alu { fieldsOf (some 255) (some 0) (some 128) true true with
                  addr := 0xffffffffffffffff }) := by
  decide

/-- V4: the five printed responses. -/
theorem test_decode_responses :
    decodeResponse 0x000000000040000000000001008#106 =
        .record (.other { RecordFields.zero with addr := 0x1008 }) ∧
      decodeResponse 0x100000000000000000000000000#106 = .endOfStream ∧
      decodeResponse 0x200000000000000000000000000#106 = .malformed ∧
      decodeResponse 0x300000000000000000000000000#106 = .malformed ∧
      decodeResponse 0x000000000050000000000000000#106 = .malformed := by
  decide

/-- The host's view of a table row: the same word by number. -/
theorem test_decodeTableWord :
    decodeTableWord 104 0x03000501010000000000002000 =
        some (.load { fieldsOf (some 1) (some 5) none false false with addr := 0x2000 }) ∧
      decodeTableWord 104 0x050000000000000000 = none := by
  decide

/-- 30_encoding.md R69: the notation of two records of V1. -/
theorem test_recordText :
    recordText (.load { fieldsOf (some 1) (some 5) none false false with addr := 0x2000 }) =
        "LOAD d=r1 s1=r5 @0x2000" ∧
      recordText (branch .notTaken 0x404) = "CBR N @0x404" := by
  decide

/-! Ill-formed terms, one for each check of WellFormed.lean; the decoder refuses the same words (V3,
30_encoding.md R66, R67, 93_implementation_defined.md U14). -/

theorem test_refuses_kind_5 :
    wordWellFormed 0x00000000050000000000000000#104 = false ∧
      decodeRecord 0x00000000050000000000000000#104 = .error .unknownKind := by decide

theorem test_refuses_kind_255 :
    wordWellFormed 0x00000000ff0000000000000000#104 = false ∧
      decodeRecord 0x00000000ff0000000000000000#104 = .error .unknownKind := by decide

theorem test_refuses_bit_102 :
    wordWellFormed 0x40000000000000000000000000#104 = false ∧
      decodeRecord 0x40000000000000000000000000#104 = .error .reservedBits := by decide

theorem test_refuses_bit_103 :
    wordWellFormed 0x80000000040000000000000000#104 = false ∧
      decodeRecord 0x80000000040000000000000000#104 = .error .reservedBits := by decide

/-- V3, last row: a legal word with every other bit set. -/
theorem test_accepts_every_other_bit :
    wordWellFormed 0x3fffffff04ffffffffffffffff#104 = true := by decide

/-- Tags 2 and 3, and a record tag over a malformed word. -/
theorem test_refuses_responses :
    responseWellFormed 0x200000000000000000000000000#106 = false ∧
      responseWellFormed 0x300000000000000000000000000#106 = false ∧
      responseWellFormed 0x000000000050000000000000000#106 = false ∧
      responseWellFormed 0x100000000000000000000000000#106 = true := by decide

/-- A width of 0 is no instance, and a step says so. -/
theorem test_refuses_width_0 :
    (instanceOf 0 .gshare true true).wellFormed = false ∧
      step (fresh (instanceOf 0 .gshare true true) []) = .refused .zeroIssueWidth :=
  ⟨by decide, rfl⟩

/-! One step from reset for each kind: the word placed where the step fetches it. -/

/-- 44_fetch_branch_resolution.md R165: the record stands in the Fetch latch as `op_id` 1. -/
theorem test_step_alu :
    nextHas (step (State.reset.withFetchWord 104 0x07030201000000000000001000)) (fun t =>
      decide (t.latchFe = [slotOf (.alu { fieldsOf (some 1) (some 2) (some 3) false false with
        addr := 0x1000 }) 1])) = true := by decide

theorem test_step_load :
    nextHas (step (State.reset.withFetchWord 104 0x03000501010000000000002000)) (fun t =>
      decide (t.latchFe = [slotOf (.load { fieldsOf (some 1) (some 5) none false false with
        addr := 0x2000 }) 1])) = true := by decide

theorem test_step_store :
    nextHas (step (State.reset.withFetchWord 104 0x06050200020000000000002008)) (fun t =>
      decide (t.latchFe = [slotOf (.store { fieldsOf none (some 2) (some 5) false false with
        addr := 0x2008 }) 1])) = true := by decide

theorem test_step_other :
    nextHas (step (State.reset.withFetchWord 104 0x00000000040000000000001008)) (fun t =>
      decide (t.latchFe = [slotOf (.other { RecordFields.zero with addr := 0x1008 }) 1])) = true := by
  decide

/-- `CBR ccr N @0x404` (V1, fourth row), by hand from 41_branch_predictor.md R91 to R98: counter 2 at
0x404 predicts TAKEN, so it is mispredicted; the counter goes to 1 and the history stays 0. -/
theorem test_step_cbr_mispredicted :
    nextHas (step (State.reset.withFetchWord 104 0x08000000030000000000000404)) (fun t =>
      decide (t.pht = [(0x404, 1#2)]) && decide (t.ghr = 0#12) && t.fetchStall &&
        decide (t.statBranches = 1) && decide (t.statMispred = 1) &&
        (slotAt t.latchFe 0).isMispred) = true := by decide

/-- V12: the counter of the old history is trained, the new history is 0x00b. -/
theorem test_step_cbr_trains_the_old_index :
    nextHas (exec (branch .taken 0x104)
        { fresh gshare1 [] with pht := [(0x101, 1#2)], ghr := 0x005#12 }) (fun t =>
      decide (t.pht = []) && decide (t.ghr = 0x00b#12) && t.fetchStall &&
        decide (t.statMispred = 1)) = true := by decide

/-! The predictor and the arbiter. -/

/-- V10. -/
theorem test_counters :
    [0#2, 1#2, 2#2, 3#2].map satInc = [1#2, 2#2, 3#2, 3#2] ∧
      [0#2, 1#2, 2#2, 3#2].map satDec = [0#2, 0#2, 1#2, 2#2] ∧
      [0#2, 1#2, 2#2, 3#2].map counterDirection = [.notTaken, .notTaken, .taken, .taken] := by decide

/-- V11, the rows with a history or bits above the index. -/
theorem test_index :
    phtIndex 0x7a4 0x00f = 0x7ab ∧ phtIndex 0x1404 0x000 = 0x404 ∧
      phtIndex 0xffffffffffffffff 0xfff = 0x000 ∧ phtIndex 0xdeadbeef00012345 0xabc = 0x9f9 := by
  decide

/-- V15. -/
theorem test_perfect_port :
    (fresh perfect1 []).predictorRequest 0x104 .taken =
      (.taken, { fresh perfect1 [] with statBranches := 1 }) := by decide

/-- V6, rows 3, 4, 6, 9 and 10: no write after write, no write after read, the reader is the consumer,
no operand under a clear bit, register 0 is a register. -/
theorem test_collide :
    let c (x y : RecordFields) := collide (slotOf (.alu x) 2) (slotOf (.alu y) 1)
    c (fieldsOf (some 1) (some 2) none false false) (fieldsOf (some 1) (some 3) none false false) =
        false ∧
      c (fieldsOf (some 2) (some 3) none false false) (fieldsOf (some 4) (some 2) none false false) =
        false ∧
      c (fieldsOf (some 1) none none false true) (fieldsOf none none none true false) = false ∧
      c (fieldsOf (some 2) (some 0) none false false) (fieldsOf none (some 1) (some 5) false false) =
        false ∧
      c (fieldsOf (some 2) (some 0) none false false) (fieldsOf (some 0) none none false false) =
        true := by
  decide

/-- V8, row 4 with `FWD_MA` = 0: the Memory collision is not consulted; its last row: some collider is a
LOAD. -/
theorem test_arbiter :
    let c := slotOf (.alu (fieldsOf (some 9) (some 1) (some 2) false false)) 5
    preStall (instanceOf 1 .gshare true false) [c] [slotOf aluR1 4]
        [slotOf (.alu (fieldsOf (some 2) none none false false)) 3] c = false ∧
      preStall (instanceOf 2 .gshare true true) [c] [slotOf loadR1 3, slotOf aluR1 4] [] c = true := by
  decide

/-- V9: lane 2 (`op_id` 10) has a hazard of its own in Execute; 11 and 12 stall behind it, 9 does not. -/
theorem test_in_order :
    stallVector (instanceOf 4 .gshare false false)
        [slotOf plain 12, slotOf plain 9, slotOf useR1 10, slotOf plain 11] [slotOf aluR1 8] [] =
      [true, false, true, true] := by decide

/-! Witnesses: the hypotheses of each statement are met. -/

/-- A state of one lane whose latches hold these slots. -/
def lanes1 (cfg : Config) (fe dec ex ma : Slot) : State :=
  { State.resetWith cfg [] with
    latchFe := [fe], latchId := [dec], latchEx := [ex], latchMa := [ma] }

theorem witness_EncodeOfDecodeIsTheWord :
    decodeRecord 0x1f8000ff00ffffffffffffffff#104 =
      .ok (.alu { fieldsOf (some 255) (some 0) (some 128) true true with
                  addr := 0xffffffffffffffff }) := by decide

/-- A malformed word at the cursor, for each of the three causes. -/
theorem witness_MalformedWordsAreRefused :
    ∀ p ∈ [(0x050000000000000000#104, DecodeError.unknownKind),
        (0x80000000040000000000000000#104, .reservedBits),
        (0x40000000000000000000000000#104, .reservedBits)],
      decodeRecord p.1 = .error p.2 ∧
      (State.resetWith gshare1 [0#2 ++ p.1]).trace[(State.resetWith gshare1 [0#2 ++ p.1]).tsPos]? =
        some (0#2 ++ p.1) := by decide

/-- The five kinds, and a word of no kind (kind 5, the first above the table). -/
theorem witness_MaskedWordSelectsTheKind :
    let masked (w : RecordWord) := w &&& 0xc0000000ff0000000000000000#104
    masked 0x07030201000000000000001000#104 = 0x00000000000000000000000000#104 ∧
    masked 0x03000501010000000000002000#104 = 0x00000000010000000000000000#104 ∧
    masked 0x06050200020000000000002008#104 = 0x00000000020000000000000000#104 ∧
    masked 0x22000400030000000000000410#104 = 0x00000000030000000000000000#104 ∧
    masked 0x00000000040000000000001008#104 = 0x00000000040000000000000000#104 ∧
    ∀ k : Fin 5, masked 0x050000000000000000#104 ≠ BitVec.ofNat 104 k.val <<< 64 := by decide

/-- In reset, halted or not: ResetEdgeGivesTheResetState, HaltedBlockHolds, EveryTickCountsOneCycle. An
instance is all that InputsAndTraceAreNeverWritten and UnreadFieldsHaveNoEffect ask for. -/
theorem witness_resetEdge :
    0 < ({ fresh gshare1 [] with rst := true } : State).cfg.n ∧
      ({ fresh gshare1 [] with rst := true, halt := true } : State).rst = true := by decide

/-- Halted: HaltedBlockHolds, EveryTickCountsOneCycle. -/
theorem witness_halted :
    0 < ({ fresh gshare1 [] with halt := true } : State).cfg.n ∧
      ({ fresh gshare1 [] with halt := true } : State).rst = false ∧
      ({ fresh gshare1 [] with halt := true } : State).halt = true := by decide

/-- Width 0 and width 1, the two sides of EveryEdgeOfAnInstanceAnswers. -/
theorem witness_EveryEdgeOfAnInstanceAnswers :
    (fresh (instanceOf 0 .gshare true true) []).cfg.n = 0 ∧ 0 < (fresh gshare1 []).cfg.n := by decide

/-- `Ticking`, with a Fetch latch of N lanes: for PulledRecordsFitTheFreeLanes, WriteBackCountsAndHalts,
StagesPassSlotsOn, TickIsTheRegisterTransferForm and the first clause of EveryTickCountsOneCycle. -/
theorem witness_Ticking :
    Ticking (fresh gshare2 [aluR1]) ∧ (fresh gshare2 [aluR1]).latchFe.length = 2 ∧
      (fresh gshare2 [aluR1]).cfg.n = 2 := by decide

/-- EveryTickCountsOneCycle, last clause, at k = 0 and k = 1. -/
theorem witness_EveryTickCountsOneCycle :
    (∃ s, Sys2Proof.core.run 0 (fresh gshare1 [aluR1]) = .next s ∧ s.halt = false) ∧
      ∃ s, Sys2Proof.core.run 1 (fresh gshare1 [aluR1]) = .next s ∧ s.halt = false :=
  ⟨⟨_, rfl, rfl⟩, ⟨_, rfl, rfl⟩⟩

/-- ErrorAndEndBitsAreSticky: all four bits set, in reset and not. -/
theorem witness_ErrorAndEndBitsAreSticky :
    let s : State := { fresh gshare1 [] with
      fatalError := true, eosSeen := true, haltIdValid := true, halt := true }
    0 < s.cfg.n ∧ s.rst = false ∧ ({ s with rst := true } : State).rst = true := by decide

theorem witness_StepRunsTheDecodedRecord :
    let s := fresh gshare2 [loadR1]
    Ticking s ∧ s.nextResponse = .record loadR1 ∧
      s.beforeFetch.firstLane.laneStalled = false ∧ s.beforeFetch.fetchStall = false ∧
      s.eosSeen = false ∧ s.firstLane.laneStalled = false ∧ s.firstLane.fetchStall = false ∧
      s.firstLane.eosSeen = false ∧ s.firstLane.nextResponse = .record loadR1 := by decide

theorem witness_BranchIsResolvedAtFetch :
    (fresh gshare1 []).cfg.policy = .gshare ∧ (fresh perfect1 []).cfg.policy = .perfect := by decide

/-- A lane that is not the one filled; an index that is not the branch's; a record that is no branch. -/
theorem witness_RecordWritesOnlyItsLaneAndThePredictor :
    let s : State := { fresh gshare2 [] with pht := [(0x404, 1#2)] }
    s.pht.wf = true ∧ (1 : Nat) ≠ s.lane ∧ (3 : Nat) ≠ s.lane ∧ isCbr aluR1 = false ∧
      (0x404 : Nat) ≠
        (((branch .taken 0x405).fields.addr ^^^ s.ghr.setWidth 64) &&& 0xFFF#64).toNat ∧
      (fresh perfect1 []).cfg.policy = .perfect := by decide

/-- A stalled lane, also while the fetch-stall is up and after the end. -/
theorem witness_StalledLaneIsHeld :
    let s : State := { lanes1 gshare1 (slotOf useR1 2) { slotOf useR1 2 with stall := true }
      (slotOf loadR1 1) bubble with latchFe := [], fetchStall := true, eosSeen := true }
    (slotAt s.latchId s.lane).stall = true := by decide

/-- Blocked by the fetch-stall, and by the end. -/
theorem witness_BlockedLaneGetsABubble :
    let s := (fresh gshare1 [aluR1]).firstLane
    (slotAt s.latchId s.lane).stall = false ∧
      ({ s with fetchStall := true } : State).fetchStall = true ∧
      ({ s with eosSeen := true } : State).eosSeen = true := by decide

/-- An attempt that meets a record, the end of the trace, and a malformed response. -/
theorem witness_FetchAttemptHasThreeOutcomes :
    (∀ s ∈ [(fresh gshare1 [aluR1]).firstLane, (fresh gshare1 []).firstLane,
        (State.resetWith gshare1 [encodeResponse .malformed]).firstLane],
      (slotAt s.latchId s.lane).stall = false ∧ s.fetchStall = false ∧ s.eosSeen = false) ∧
    (fresh gshare1 [aluR1]).firstLane.nextResponse = .record aluR1 ∧
      (fresh gshare1 []).firstLane.nextResponse = .endOfStream ∧
      (State.resetWith gshare1 [encodeResponse .malformed]).firstLane.nextResponse = .malformed := by decide

theorem witness_MalformedRecordIsTakenByTheTick :
    let s := State.resetWith gshare2 [encodeResponse .malformed]
    Ticking s ∧ s.nextResponse = .malformed ∧ s.beforeFetch.firstLane.laneStalled = false ∧
      s.beforeFetch.fetchStall = false ∧ s.eosSeen = false := by decide

theorem witness_FetchStallBlocksTheRestOfTheGroup :
    ({ fresh gshare2 [aluR1] with fetchStall := true, latchFe := [slotOf plain 1] } : State).fetchStall =
      true := by decide

/-- A mispredicted branch in Execute (the window is open), then in Memory (it closes). -/
theorem witness_NothingIsFetchedInTheMispredictionWindow :
    let b : Slot := { slotOf (branch .notTaken 0) 1 with isMispred := true }
    let s : State := { lanes1 gshare1 bubble bubble b bubble with fetchStall := true }
    let r : State := { lanes1 gshare1 bubble bubble bubble b with
      fetchStall := true, trace := recordTrace [aluR1] }
    (Ticking s ∧ s.latchFe.length = s.cfg.n ∧ s.fetchStall = true ∧
      ∀ x ∈ s.latchMa, x.valid = true → x.isMispred = false) ∧
    Ticking r ∧ (∃ x ∈ r.latchMa, x.valid = true ∧ x.isMispred = true) ∧ r.eosSeen = false ∧
      r.nextResponse = .record aluR1 ∧ r.beforeFetch.firstLane.laneStalled = false := by decide

/-- Two traces with the same window: they differ behind it, and in an explicit end. -/
theorem witness_TickReadsOnlyTheTraceWindow :
    let s := fresh gshare2 [aluR1, useR1, plain]
    Ticking s ∧ State.tsWindow { s with trace := recordTrace [aluR1, useR1] } = s.tsWindow ∧
      State.tsWindow { fresh gshare2 [aluR1] with
          trace := recordTrace [aluR1] ++ [encodeResponse .endOfStream] } =
        (fresh gshare2 [aluR1]).tsWindow := by decide

/-- GSHARE and PERFECT, the table canonical: PredictionIsBitOneOfTheCounter,
UpdateTrainsOneCounterThenShifts, HistoryIsTheOutcomesModuloTable, FiveTakenBranchesFromReset,
PerfectLeavesThePredictorAlone. -/
theorem witness_predictorPolicies :
    let s : State := { fresh gshare1 [] with pht := [(0, 3#2), (4095, 0#2)], ghr := 0xfff#12 }
    s.cfg.policy = .gshare ∧ s.pht.wf = true ∧ (4094 : Nat) ≠ phtIndex 0 s.ghr ∧
      (fresh perfect1 []).cfg.policy = .perfect ∧ Ticking (fresh perfect1 []) := by decide

/-- ArbiterFollowsTheTruthTable: one case for each of its rows (V8). -/
theorem witness_ArbiterFollowsTheTruthTable :
    let c := slotOf useR1 5
    let p := slotOf aluR1 4
    let l := slotOf loadR1 4
    c.valid = true ∧
    (∀ ex ∈ [false, true], ∀ ma ∈ [false, true], SpecReadings (instanceOf 2 .gshare ex ma)) ∧
    -- row 1: an older collider in Decode
    (idHazard [c, p] c = true ∧ p.valid = true ∧ p.opId < c.opId ∧ collide c p = true) ∧
    -- rows 2 and 4: a collider in Execute that is no LOAD, at the largest `op_id` allowed
    (idHazard [c] c = false ∧ collide c { p with opId := 5 } = true ∧ isLoad p.record = false) ∧
    -- row 3: a LOAD collides in Execute
    (collide c l = true ∧ l.record = .load loadR1.fields ∧ l.opId ≤ c.opId) ∧
    -- rows 5 and 6: a collider in Memory only
    (laterHazard [] c = false ∧ laterHazard [l] c = true) ∧
    -- row 7: no collider at all
    laterHazard [slotOf plain 4] c = false := by decide

/-- OtherReadingsDifferOnlyInTheCorners: both readings do differ somewhere. -/
theorem witness_OtherReadingsDifferOnlyInTheCorners :
    let c := slotOf (.alu (fieldsOf none (some 1) (some 2) false false)) 5
    let r2 := slotOf (.alu (fieldsOf (some 2) none none false false)) 3
    let cfg := instanceOf 2 .gshare true false
    SpecReadings cfg ∧
    preStall { cfg with sourcePriority := .everyCollision } [c] [slotOf aluR1 4] [r2] c ≠
      preStall cfg [c] [slotOf aluR1 4] [r2] c ∧
    preStall { cfg with loadUse := .youngestLoad } [c] [slotOf loadR1 3, slotOf aluR1 4] [] c ≠
      preStall cfg [c] [slotOf loadR1 3, slotOf aluR1 4] [] c := by decide

/-- OldestHazardStallsEverythingYounger: distinct `op_id`s, an oldest lane with a hazard (V9), and latches
without any. -/
theorem witness_OldestHazardStallsEverythingYounger :
    let cfg := instanceOf 4 .gshare false false
    let m := slotOf useR1 10
    let dec := [slotOf plain 12, slotOf plain 9, m, slotOf plain 11]
    ((validSlots dec).map fun x => x.opId).Nodup ∧ m ∈ dec ∧ m.valid = true ∧
      preStall cfg dec [slotOf aluR1 8] [] m = true ∧
      (∀ j ∈ dec, j.valid = true → preStall cfg dec [slotOf aluR1 8] [] j = true →
        m.opId ≤ j.opId) ∧
      ∀ j ∈ dec, preStall cfg dec [] [] j = false := by decide

/-- A bubble lane. -/
theorem witness_BubblesTakeNoPartInTheStalls : bubble.valid = false := by decide

/-- A LOAD that leaves Decode and its consumer that enters it. -/
theorem witness_LoadUseAlwaysStalls :
    let s := lanes1 gshare1 (slotOf useR1 2) (slotOf loadR1 1) bubble bubble
    Ticking s ∧ s.cfg.loadUse = .anyLoad ∧ s.latchId[0]? = some (slotOf loadR1 1) ∧
      s.latchFe[0]? = some (slotOf useR1 2) ∧ (slotOf loadR1 1).stall = false ∧
      (slotOf loadR1 1).record = .load loadR1.fields ∧
      (slotOf loadR1 1).opId ≤ (slotOf useR1 2).opId ∧
      collide (slotOf useR1 2) (slotOf loadR1 1) = true := by decide

theorem witness_IndependentInstructionsNeverStall :
    ∀ c ∈ [slotOf plain 2], ∀ p ∈ [slotOf plain 2] ++ [slotOf aluR1 1] ++ [slotOf loadR1 0],
      collide c p = false := by decide

/-- FetchLatchHoldsOrTakesNew and TickLeavesStallsInOrder: a tick that leaves a stalled lane with a younger
one behind it, and one that leaves an unstalled lane. -/
theorem witness_FetchLatchHoldsOrTakesNew :
    let s : State := { fresh gshare2 [] with
      latchFe := [slotOf useR1 2, slotOf plain 3], latchId := [slotOf loadR1 1, bubble] }
    Ticking s ∧ s.latchFe.length = s.cfg.n ∧
      nextHas (step s) (fun t =>
        (t.latchId.map fun x => x.stall) == [true, true]) = true ∧
      nextHas (step (fresh gshare2 [plain])) (fun t =>
        (t.latchId.map fun x => x.stall) == [false, false]) = true := by decide

/-- AdjacentConsumerStallsTheTablesTicks: every setting of the toggles, a LOAD and another producer, at
the first and the last tick of the range. -/
theorem witness_AdjacentConsumerStallsTheTablesTicks :
    ∀ ex ∈ [false, true], ∀ ma ∈ [false, true], ∀ p ∈ [slotOf aluR1 1, slotOf loadR1 1],
      let s := lanes1 (instanceOf 1 .gshare ex ma) (slotOf useR1 2) p bubble bubble
      s.cfg.n = 1 ∧ Ticking s ∧ SpecReadings s.cfg ∧ p.valid = true ∧ p.stall = false ∧
        (slotOf useR1 2).valid = true ∧ p.opId ≤ (slotOf useR1 2).opId ∧
        collide (slotOf useR1 2) p = true ∧ 0 ≤ adjacentStalls (isLoad p.record) ex ma ∧
        adjacentStalls (isLoad p.record) ex ma ≤ 2 := by decide

/-- A Decode slot that is not stalled, in a block that does not halt for two more ticks. -/
theorem witness_RetiresThreeTicksAfterDecode :
    let s := lanes1 gshare1 bubble (slotOf plain 1) bubble bubble
    Ticking s ∧ s.latchId[0]? = some (slotOf plain 1) ∧ (slotOf plain 1).valid = true ∧
      (slotOf plain 1).stall = false ∧
      nextHas (step s) (fun t => !t.halt && nextHas (step t) fun u => !u.halt) = true := by decide

theorem witness_StepKeepsTheTableCanonical :
    0 < (fresh gshare1 []).cfg.n ∧
      ({ fresh gshare1 [] with pht := [(0, 1#2), (4095, 3#2)] } : State).pht.wf = true := by decide

/-- A state that is not the reset state: a stalled consumer, its copy in Fetch, and a LOAD in Execute. -/
def midRun : State :=
  { lanes1 gshare1 (slotOf useR1 2) { slotOf useR1 2 with stall := true } (slotOf loadR1 1) bubble with
    trace := recordTrace [loadR1, useR1], tsPos := 2, opidCtr := 2, statCycles := 3 }

theorem witness_StepKeepsThePipelineInvariant : PipelineInv midRun :=
  ⟨by decide, by decide, by decide, by decide, by decide, by decide, by decide, by decide, by decide,
    by decide⟩

/-- HaltedRunsRetiredEveryRecord, last clause: this state steps to a halt. -/
theorem witness_HaltedRunsRetiredEveryRecord :
    nextHas (Sys2Proof.core.run 5 (fresh gshare1 [plain])) (fun t => t.halt) = true := by decide

/-- Both forwarding toggles off: the consumer stands stalled in Decode for two ticks in a row. -/
def twoStalls : State :=
  { midRun with cfg := instanceOf 1 .gshare false false }

theorem witness_OldestInDecodeIsSoonReleased :
    PipelineInv twoStalls ∧ OldestInDecodeStalls twoStalls ∧
      ∃ t u, step twoStalls = .next t ∧ step t = .next u ∧ OldestInDecodeStalls t :=
  ⟨⟨by decide, by decide, by decide, by decide, by decide, by decide, by decide, by decide, by decide,
    by decide⟩, by decide, _, _, rfl, rfl, by decide⟩

/-- The end recorded with two instructions in flight. -/
def ending : State :=
  { midRun with eosSeen := true, haltIdValid := true, haltId := 2 }

theorem witness_RecordedEndDrainsToHalt :
    PipelineInv ending ∧ ending.rst = false ∧ ending.halt = false ∧ ending.eosSeen = true ∧
      ending.inFlight ≠ [] :=
  ⟨⟨by decide, by decide, by decide, by decide, by decide, by decide, by decide, by decide, by decide,
    by decide⟩, by decide, by decide, by decide, by decide⟩

/-- The empty trace, and one whose first response is malformed. -/
theorem witness_TraceWithoutRecordsNeverHalts :
    0 < gshare1.n ∧ responseAt [] 0 = .endOfStream ∧
      responseAt [encodeResponse .malformed] 0 = .malformed := by decide

/-- A mispredicted branch in Decode, and nothing behind it in the trace. -/
def lastBranch : State :=
  { lanes1 gshare1 bubble { slotOf (branch .notTaken 0) 1 with isMispred := true } bubble bubble with
    trace := recordTrace [branch .notTaken 0], tsPos := 1, opidCtr := 1, fetchStall := true
    statBranches := 1, statMispred := 1, pht := [(0, 1#2)], statCycles := 2 }

theorem witness_MispredictedLastBranchNeverHalts :
    PipelineInv lastBranch ∧ lastBranch.rst = false ∧ lastBranch.halt = false ∧
      lastBranch.eosSeen = false ∧ lastBranch.fetchStall = true ∧
      lastBranch.nextResponse = .endOfStream :=
  ⟨⟨by decide, by decide, by decide, by decide, by decide, by decide, by decide, by decide, by decide,
    by decide⟩, by decide, by decide, by decide, by decide, by decide⟩

theorem witness_HungBlockOnlyCountsCycles :
    Hung { fresh gshare1 [] with eosSeen := true, haltIdValid := true } := by decide

/-- OneRecordHaltsInTickFive: a taken branch under GSHARE, and a branch not taken under PERFECT. -/
theorem witness_OneRecordHaltsInTickFive :
    0 < gshare1.n ∧ gshare1.policy = .gshare ∧ isCbr (branch .taken 0) = true ∧
      (branch .taken 0).fields.brDir = .taken ∧ perfect1.policy ≠ .gshare := by decide

/-- IndependentRecordsTakeTheBaseLatency: a group that is full, and one record more. -/
theorem witness_IndependentRecordsTakeTheBaseLatency :
    0 < gshare2.n ∧ [plain, aluR1] ≠ [] ∧ (∀ i ∈ [plain, aluR1, loadR1], independentRecord i = true) ∧
      ([plain, aluR1].length + gshare2.n - 1) / gshare2.n + 4 = 5 ∧
      ([plain, aluR1, loadR1].length + gshare2.n - 1) / gshare2.n + 4 = 6 := by decide

end Sys2Proof.Tests
end

section
/-!
SUPPORT. The slots of a latch: clearing the stall flag, the valid slots, and the slots of the Fetch
latch beside the lanes of the Decode latch (10_state.md R12, R14, R25).
-/

namespace Sys2Proof.Machine

/-- The same instruction with the stall flag 0: what the other latches hold of a Decode slot
(10_state.md R12). -/
def clearStall (x : Slot) : Slot := { x with stall := false }

@[simp] theorem clearStall_record (x : Slot) : (clearStall x).record = x.record := rfl
@[simp] theorem clearStall_opId (x : Slot) : (clearStall x).opId = x.opId := rfl
@[simp] theorem clearStall_valid (x : Slot) : (clearStall x).valid = x.valid := rfl
@[simp] theorem clearStall_stall (x : Slot) : (clearStall x).stall = false := rfl
@[simp] theorem clearStall_isMispred (x : Slot) : (clearStall x).isMispred = x.isMispred := rfl
@[simp] theorem clearStall_clearStall (x : Slot) : clearStall (clearStall x) = clearStall x := rfl
@[simp] theorem clearStall_bubble : clearStall bubble = bubble := rfl

theorem clearStall_of_stall_eq_false {x : Slot} (h : x.stall = false) : clearStall x = x := by
  rw [clearStall, ← h]

/-- A released slot moves to Execute unchanged but for its flag; any other leaves a bubble. -/
theorem executeSlot_eq (d : Slot) :
    executeSlot d = if d.valid = true ∧ d.stall = false then clearStall d else bubble := by
  simp [executeSlot, clearStall]

theorem executeSlot_of_stall {d : Slot} (h : d.stall = true) : executeSlot d = bubble := by
  simp [executeSlot_eq, h]

/-! The valid slots of a latch. -/

@[simp] theorem validSlots_nil : validSlots [] = [] := rfl

@[simp] theorem validSlots_append (l m : List Slot) :
    validSlots (l ++ m) = validSlots l ++ validSlots m := List.filter_append l m

theorem validSlots_cons (x : Slot) (l : List Slot) :
    validSlots (x :: l) = validSlots [x] ++ validSlots l := validSlots_append [x] l

theorem mem_validSlots {x : Slot} {l : List Slot} :
    x ∈ validSlots l ↔ x ∈ l ∧ x.valid = true := List.mem_filter

theorem validSlots_map_clearStall (l : List Slot) :
    validSlots (l.map clearStall) = (validSlots l).map clearStall := by
  simp only [validSlots, List.filter_map]
  rfl

theorem length_validSlots (l : List Slot) :
    (validSlots l).length = l.countP fun x => x.valid := (List.countP_eq_length_filter ..).symm

theorem validSlots_replicate_bubble (n : Nat) : validSlots (List.replicate n bubble) = [] :=
  List.filter_replicate_of_neg (by decide)

/-! The lanes of two latches. -/

theorem slotAt_mem {latch : List Slot} {l : Nat} (h : l < latch.length) :
    slotAt latch l ∈ latch := by
  rw [slotAt, List.getD_eq_getElem _ _ h]
  exact List.getElem_mem h

/-- The next lane of the Fetch latch stands beside the Decode lane of its number. -/
theorem zip_concat : ∀ {dec fe : List Slot} (x : Slot), fe.length < dec.length →
    dec.zip (fe ++ [x]) = dec.zip fe ++ [(slotAt dec fe.length, x)]
  | [], fe, x, h => absurd h (Nat.not_lt_zero _)
  | d :: dec, [], x, _ => by simp [slotAt]
  | d :: dec, f :: fe, x, h => by
    have ih := zip_concat (dec := dec) (fe := fe) x (Nat.lt_of_succ_lt_succ h)
    simpa [slotAt] using ih

/-- The valid slots of a Fetch latch that stand beside an unstalled Decode slot. -/
def freshOf (dec fe : List Slot) : List Slot :=
  validSlots (((dec.zip fe).filter fun p => !p.1.stall).map fun p => p.2)

theorem State.freshSlots_eq (s : State) : s.freshSlots = freshOf s.latchId s.latchFe := rfl

theorem mem_freshOf {dec fe : List Slot} {x : Slot} :
    x ∈ freshOf dec fe ↔ x.valid = true ∧ ∃ d, (d, x) ∈ dec.zip fe ∧ d.stall = false := by
  simp [freshOf, mem_validSlots, and_comm]

theorem freshOf_cons_of_stall {d f : Slot} (dec fe : List Slot) (h : d.stall = true) :
    freshOf (d :: dec) (f :: fe) = freshOf dec fe := by
  simp [freshOf, h]

theorem freshOf_cons_of_not_stall {d f : Slot} (dec fe : List Slot) (h : d.stall = false) :
    freshOf (d :: dec) (f :: fe) = validSlots [f] ++ freshOf dec fe := by
  simp only [freshOf, List.zip_cons_cons, h, Bool.not_false, List.filter_cons_of_pos, List.map_cons]
  exact validSlots_cons _ _

theorem freshOf_concat {dec fe : List Slot} (x : Slot) (h : fe.length < dec.length) :
    freshOf dec (fe ++ [x]) =
      freshOf dec fe ++ if (slotAt dec fe.length).stall then [] else validSlots [x] := by
  simp only [freshOf, zip_concat x h, List.filter_append, List.map_append, validSlots_append]
  cases hd : (slotAt dec fe.length).stall <;> simp [hd]

/-- Decode and Fetch hold each instruction once (10_state.md R25 items 1 and 6): what a tick moves
to Execute, and what stays in the Fetch latch for Decode to copy, are together the instructions
that Decode and the fresh lanes of Fetch held. -/
theorem released_append_held_perm {dec fe : List Slot} (hl : dec.length = fe.length)
    (hh : ∀ p ∈ dec.zip fe, p.1.stall = true → p.2 = clearStall p.1) :
    ((validSlots (dec.map executeSlot) ++ validSlots fe).map clearStall).Perm
      ((validSlots dec ++ freshOf dec fe).map clearStall) := by
  have swap : ∀ a b c e : List Slot, (((a ++ b) ++ (c ++ e)).map clearStall).Perm
      ((a ++ c).map clearStall ++ (b ++ e).map clearStall) := fun a b c e => by
    refine List.perm_iff_count.mpr fun x => ?_
    simp only [List.map_append, List.count_append]
    omega
  induction dec generalizing fe with
  | nil =>
    obtain rfl : fe = [] := List.length_eq_zero_iff.mp hl.symm
    exact .refl _
  | cons d dec ih =>
    obtain ⟨f, fe, rfl⟩ := List.exists_cons_of_length_eq_add_one hl.symm
    have ih := ih (fe := fe) (by simpa using hl) fun p hp => hh p (List.mem_cons_of_mem _ hp)
    rw [List.map_cons, validSlots_cons (executeSlot d), validSlots_cons f, validSlots_cons d]
    refine (swap ..).trans ?_
    cases hs : d.stall with
    | true =>
      have hf : f = clearStall d := hh (d, f) (by simp) hs
      rw [freshOf_cons_of_stall dec fe hs, executeSlot_of_stall hs, hf, List.append_assoc,
        List.map_append (l₁ := validSlots [d])]
      refine List.Perm.append (.of_eq ?_) ih
      cases hv : d.valid <;> simp [validSlots, hv, bubble]
    | false =>
      rw [freshOf_cons_of_not_stall dec fe hs]
      refine List.Perm.trans (List.Perm.append (.of_eq ?_) ih) (swap ..).symm
      cases hv : d.valid <;> simp [validSlots, executeSlot_eq, hv, hs, bubble]

end Sys2Proof.Machine
end

section
/-!
SUPPORT. One tick: the state Fetch starts from, field by field (42_pipeline_tick.md R110 to R116),
what one edge answers, and the stall flags Decode leaves.
-/

namespace Sys2Proof.Machine

/-- The state Fetch starts from: the four other stages have run and no lane is written. -/
abbrev State.fetchStart (s : State) : State := s.beforeFetch.firstLane

variable (s : State)

@[simp] theorem State.beforeFetch_cfg : s.beforeFetch.cfg = s.cfg := by rw [s.beforeFetch_eq]
@[simp] theorem State.beforeFetch_rst : s.beforeFetch.rst = s.rst := by rw [s.beforeFetch_eq]
@[simp] theorem State.beforeFetch_trace : s.beforeFetch.trace = s.trace := by rw [s.beforeFetch_eq]
@[simp] theorem State.beforeFetch_tsPos : s.beforeFetch.tsPos = s.tsPos := by rw [s.beforeFetch_eq]
@[simp] theorem State.beforeFetch_latchFe : s.beforeFetch.latchFe = s.latchFe := by
  rw [s.beforeFetch_eq]
@[simp] theorem State.beforeFetch_latchId : s.beforeFetch.latchId = s.newId := by
  rw [s.beforeFetch_eq]
@[simp] theorem State.beforeFetch_latchEx : s.beforeFetch.latchEx = s.latchId.map executeSlot := by
  rw [s.beforeFetch_eq]
@[simp] theorem State.beforeFetch_latchMa : s.beforeFetch.latchMa = s.latchEx := by
  rw [s.beforeFetch_eq]
@[simp] theorem State.beforeFetch_opidCtr : s.beforeFetch.opidCtr = s.opidCtr := by
  rw [s.beforeFetch_eq]
@[simp] theorem State.beforeFetch_fetchStall :
    s.beforeFetch.fetchStall = (s.fetchStall && !mispredRetires s.latchMa) := by
  rw [s.beforeFetch_eq]
@[simp] theorem State.beforeFetch_eosSeen : s.beforeFetch.eosSeen = s.eosSeen := by
  rw [s.beforeFetch_eq]
@[simp] theorem State.beforeFetch_haltId : s.beforeFetch.haltId = s.haltId := by
  rw [s.beforeFetch_eq]
@[simp] theorem State.beforeFetch_haltIdValid : s.beforeFetch.haltIdValid = s.haltIdValid := by
  rw [s.beforeFetch_eq]
@[simp] theorem State.beforeFetch_halt :
    s.beforeFetch.halt = (s.halt || (s.haltIdValid && opIdRetires s.latchMa s.haltId)) := by
  rw [s.beforeFetch_eq]
@[simp] theorem State.beforeFetch_fatalError : s.beforeFetch.fatalError = s.fatalError := by
  rw [s.beforeFetch_eq]
@[simp] theorem State.beforeFetch_pht : s.beforeFetch.pht = s.pht := by rw [s.beforeFetch_eq]
@[simp] theorem State.beforeFetch_ghr : s.beforeFetch.ghr = s.ghr := by rw [s.beforeFetch_eq]
@[simp] theorem State.beforeFetch_statCycles : s.beforeFetch.statCycles = s.statCycles + 1 := by
  rw [s.beforeFetch_eq]
@[simp] theorem State.beforeFetch_statRetired :
    s.beforeFetch.statRetired = s.statRetired + (validSlots s.latchMa).length := by
  rw [s.beforeFetch_eq, length_validSlots]
@[simp] theorem State.beforeFetch_statBranches : s.beforeFetch.statBranches = s.statBranches := by
  rw [s.beforeFetch_eq]
@[simp] theorem State.beforeFetch_statMispred : s.beforeFetch.statMispred = s.statMispred := by
  rw [s.beforeFetch_eq]

/-- In reset, an edge gives the reset state (70_reset_and_hazards.md R200). -/
theorem step_of_reset {s : State} (hn : 0 < s.cfg.n) (hr : s.rst = true) :
    step s = .next s.resetEdge := by
  simp [step, State.edge, hn.ne', hr]

/-- A halted block holds (42_pipeline_tick.md R119). -/
theorem step_of_halted {s : State} (hn : 0 < s.cfg.n) (hr : s.rst = false) (hh : s.halt = true) :
    step s = .next s := by
  simp [step, State.edge, hn.ne', hr, hh]

/-- A ticking state steps to a next state, which keeps all that Fetch does not own. -/
theorem step_of_ticking {s : State} (h : Ticking s) :
    ∃ t, step s = .next t ∧ s.tick = .next t ∧ FetchFrame s.beforeFetch t ∧
      t.latchFe.length = s.cfg.n := by
  obtain ⟨hn, hr, hh⟩ := h
  obtain ⟨t, ht, hf, hl⟩ := s.beforeFetch.fetch_spec
  exact ⟨t, (step_of_tick hn hr hh).trans ht, ht, hf, by simpa using hl⟩

/-- The Decode latch a tick leaves is the Fetch latch it found, but for the stall flags. -/
theorem clearStall_newId (s : State) : s.newId.map clearStall = s.latchFe.map clearStall := by
  simp [State.newId, decodeLatch, decodeCopy, clearStall]

theorem mem_decodeLatch {cfg : Config} {d ex ma : List Slot} {x : Slot} :
    x ∈ decodeLatch cfg d ex ma ↔ ∃ c ∈ d, x = { c with stall := stallOf cfg d ex ma c } := by
  simp only [decodeLatch, List.mem_map, eq_comm]

/-- The in-order stalls (43_hazard_detector.md R138): a lane that is stalled has a hazard itself or
behind an older lane, and either way every younger valid lane is behind one. -/
theorem decodeLatch_stalls_inOrder {cfg : Config} {d ex ma : List Slot} {a b : Slot}
    (ha : a ∈ decodeLatch cfg d ex ma) (hb : b ∈ decodeLatch cfg d ex ma) (hv : b.valid = true)
    (hlt : a.opId < b.opId) (hs : a.stall = true) : b.stall = true := by
  obtain ⟨c, hc, rfl⟩ := mem_decodeLatch.mp ha
  obtain ⟨e, he, rfl⟩ := mem_decodeLatch.mp hb
  obtain ⟨hcv, hpre | ⟨j, hj, hjv, hjlt, hpre⟩⟩ := stallOf_iff.mp hs
  · exact stallOf_iff.mpr ⟨hv, .inr ⟨c, hc, hcv, hlt, hpre⟩⟩
  · exact stallOf_iff.mpr ⟨hv, .inr ⟨j, hj, hjv, hjlt.trans hlt, hpre⟩⟩

/-- Settles O39: Decode computes the flags in order and Fetch leaves them. -/
theorem tickLeavesStallsInOrder : Obligations.TickLeavesStallsInOrder := by
  intro s hs
  obtain ⟨t, hstep, -, hframe, -⟩ := step_of_ticking hs
  have hid : t.latchId = s.newId := by rw [hframe.latchId, s.beforeFetch_latchId]
  refine ⟨t, hstep, fun a ha b hb _ hv hlt hstall => ?_⟩
  rw [hid] at ha hb
  exact decodeLatch_stalls_inOrder ha hb hv hlt hstall

end Sys2Proof.Machine
end

section
/-!
SUPPORT. The reset state, and the pipeline invariant while a tick runs. `PipelineCore` is the
invariant without the lengths of the latches: it holds of the reset state, of the state Fetch starts
from, and of the state after each lane of Fetch, where the Fetch latch is only partly written
(log 3).
-/

namespace Sys2Proof.Machine

/-- The pipeline invariant without the latch lengths. -/
structure PipelineCore (s : State) : Prop where
  marks : SlotMarks s
  held : HeldPairs s
  order : ProgramOrder s
  stalls : InOrderStalls s
  branch : FetchStallMark s
  ending : EndMark s
  counts : CountsAgree s
  halted : HaltedEmpty s
  table : s.pht.wf = true

theorem pipelineInv_iff {s : State} : PipelineInv s ↔ LatchShape s ∧ PipelineCore s :=
  ⟨fun ⟨shape, a, b, c, d, e, f, g, h, i⟩ => ⟨shape, a, b, c, d, e, f, g, h, i⟩,
    fun ⟨shape, a, b, c, d, e, f, g, h, i⟩ => ⟨shape, a, b, c, d, e, f, g, h, i⟩⟩

/-! The reset state (10_state.md R27). -/

/-- Settles O9. -/
theorem resetStateHoldsTheSpecsValues : Obligations.ResetStateHoldsTheSpecsValues := by
  intro cfg responses
  refine ⟨fun latch hl => ?_, rfl, rfl, rfl, rfl, rfl, rfl, rfl, fun _ _ => rfl, rfl, rfl, rfl, rfl,
    rfl, rfl⟩
  have hrep : latch = List.replicate cfg.n bubble := by
    simpa [State.resetWith] using hl
  subst hrep
  exact ⟨List.length_replicate, fun x hx => List.eq_of_mem_replicate hx⟩

theorem inFlight_resetWith (cfg : Config) (responses : List ResponseWord) :
    (State.resetWith cfg responses).inFlight = [] := by
  simp only [State.inFlight, State.freshSlots, State.resetWith, validSlots_replicate_bubble]
  refine List.filter_eq_nil_iff.mpr fun x hx => ?_
  obtain ⟨p, hp, rfl⟩ := List.mem_map.mp hx
  rw [List.eq_of_mem_replicate (List.of_mem_zip (List.mem_of_mem_filter hp)).2]
  decide

/-- The invariant after reset. -/
theorem pipelineInv_resetWith {cfg : Config} (responses : List ResponseWord) (hn : 0 < cfg.n) :
    PipelineInv (State.resetWith cfg responses) := by
  have hempty := inFlight_resetWith cfg responses
  have hfresh : (State.resetWith cfg responses).freshSlots = [] :=
    (List.append_eq_nil_iff.mp hempty).2
  have hslot : ∀ {x : Slot}, x ∈ List.replicate cfg.n bubble → x = bubble :=
    List.eq_of_mem_replicate
  refine pipelineInv_iff.mpr ⟨by simpa [LatchShape, State.resetWith] using hn, ?_⟩
  constructor
  case marks =>
    simp only [SlotMarks, State.resetWith, List.mem_append, or_self]
    exact ⟨fun x hx => by rw [hslot hx]; rfl, fun x hx _ => hslot hx⟩
  case held =>
    intro p hp _
    rw [hslot (List.of_mem_zip hp).1, hslot (List.of_mem_zip hp).2]
    rfl
  case order =>
    simp only [ProgramOrder, hempty, hfresh]
    simp [State.resetWith, validSlots_replicate_bubble, AllOlder]
  case stalls =>
    intro a ha b _ hv
    rw [hslot ha] at hv
    cases hv
  case branch =>
    simp only [FetchStallMark, hempty]
    simp [State.resetWith]
  case ending => simp [EndMark, State.resetWith]
  case counts =>
    simp only [CountsAgree, hempty]
    simp [State.resetWith]
  case halted => exact fun h => nomatch h
  case table => rfl

/-- The invariant does not speak of the reset pin (log 6). -/
theorem pipelineInv_resetEdge {s : State} (hn : 0 < s.cfg.n) : PipelineInv s.resetEdge :=
  pipelineInv_resetWith (cfg := s.cfg) s.trace hn

/-- Settles O50. -/
theorem pipelineInvariantAtReset : Obligations.PipelineInvariantAtReset :=
  ⟨pipelineInv_resetWith [] (by decide), fun _ responses hn => pipelineInv_resetWith responses hn⟩

end Sys2Proof.Machine
end

section
/-!
SUPPORT. What the pipeline invariant says of the instructions in flight when a tick begins: by age,
which retire, which move on and which are held (10_state.md R25).
-/

namespace Sys2Proof.Machine

/-- The instructions behind the Execute latch: in Decode, or fetched in the last tick. -/
def State.behindExecute (s : State) : List Slot := validSlots s.latchId ++ s.freshSlots

/-- The instructions behind the Memory latch: those that a tick does not retire. -/
def State.behindMemory (s : State) : List Slot := validSlots s.latchEx ++ s.behindExecute

theorem State.inFlight_eq (s : State) : s.inFlight = validSlots s.latchMa ++ s.behindMemory := by
  simp [State.inFlight, State.behindMemory, State.behindExecute]

theorem mem_inFlight_of_mem_behindMemory {s : State} {x : Slot} (hx : x ∈ s.behindMemory) :
    x ∈ s.inFlight := by
  rw [s.inFlight_eq]
  exact List.mem_append_right _ hx

section
variable {s : State} (hcore : PipelineCore s)
include hcore

/-- Every instruction of the Memory latch is older than every one behind it. -/
theorem memory_older {m x : Slot} (hm : m ∈ validSlots s.latchMa) (hx : x ∈ s.behindMemory) :
    m.opId < x.opId := by
  obtain ⟨-, hma, -⟩ := hcore.order
  exact hma m hm x (by simpa [State.behindMemory, State.behindExecute] using hx)

theorem opId_le_of_mem_inFlight {x : Slot} (hx : x ∈ s.inFlight) : x.opId ≤ s.opidCtr := by
  obtain ⟨-, -, -, -, -, hbound⟩ := hcore.order
  exact (hbound x hx).2

/-- What is behind the Memory latch is younger than what this tick retires: the slots of the Memory
latch have distinct `op_id`s between the retired ones and its own. -/
theorem retired_lt_of_mem_behindMemory {x : Slot} (hx : x ∈ s.behindMemory) :
    s.statRetired + (validSlots s.latchMa).length < x.opId := by
  obtain ⟨hnodup, -, -, -, -, hbound⟩ := hcore.order
  rw [s.inFlight_eq] at hnodup hbound
  have hids : ((validSlots s.latchMa).map fun y => y.opId).Nodup := by
    rw [List.map_append] at hnodup
    exact hnodup.of_append_left
  have hsub : ((validSlots s.latchMa).map fun y => y.opId).toFinset ⊆
      Finset.Ioo s.statRetired x.opId := fun a ha => by
    obtain ⟨m, hm, rfl⟩ := List.mem_map.mp (List.mem_toFinset.mp ha)
    exact Finset.mem_Ioo.mpr
      ⟨(hbound m (List.mem_append_left _ hm)).1, memory_older hcore hm hx⟩
  have hcard := Finset.card_le_card hsub
  rw [List.toFinset_card_of_nodup hids, List.length_map, Nat.card_Ioo] at hcard
  have := (hbound x (List.mem_append_right _ hx)).1
  omega

/-- In the Decode latch, a released instruction is older than a stalled one. -/
theorem released_older_than_stalled {a b : Slot} (ha : a ∈ s.latchId) (hb : b ∈ s.latchId)
    (hav : a.valid = true) (hbv : b.valid = true) (has : a.stall = false) (hbs : b.stall = true) :
    a.opId < b.opId := by
  rcases Nat.lt_trichotomy a.opId b.opId with hlt | heq | hgt
  · exact hlt
  · have hmem : ∀ {x : Slot}, x ∈ s.latchId → x.valid = true → x ∈ s.inFlight := fun hx hv => by
      simp [State.inFlight, mem_validSlots, hx, hv]
    have : a = b := List.inj_on_of_nodup_map hcore.order.1 (hmem ha hav) (hmem hb hbv) heq
    rw [this, hbs] at has
    cases has
  · have := hcore.stalls b hb a ha hbv hav hgt hbs
    rw [has] at this
    cases this

/-- A valid slot of the Fetch latch is a stalled Decode slot's copy or is fresh. -/
theorem held_or_fresh {f : Slot} (hf : f ∈ s.latchFe) (hv : f.valid = true)
    (hl : s.latchId.length = s.latchFe.length) :
    (∃ d ∈ s.latchId, d.stall = true ∧ clearStall d = f) ∨ f ∈ s.freshSlots := by
  obtain ⟨l, hlt, rfl⟩ := List.getElem_of_mem hf
  have hp : (s.latchId[l], s.latchFe[l]) ∈ s.latchId.zip s.latchFe := by
    rw [List.mem_iff_getElem]
    exact ⟨l, by simp [hl, hlt], by simp⟩
  cases hs : s.latchId[l].stall
  · exact .inr (mem_freshOf.mpr ⟨hv, _, hp, hs⟩)
  · exact .inl ⟨_, List.getElem_mem _, hs, (hcore.held _ hp hs).symm⟩

/-- An instruction that leaves Decode is older than every one the Fetch latch holds. -/
theorem released_older_than_fetch {d f : Slot} (hl : s.latchId.length = s.latchFe.length)
    (hd : d ∈ s.latchId) (hdv : d.valid = true) (hds : d.stall = false) (hf : f ∈ s.latchFe)
    (hfv : f.valid = true) : d.opId < f.opId := by
  obtain ⟨-, -, -, hdec, -⟩ := hcore.order
  rcases held_or_fresh hcore hf hfv hl with ⟨e, he, hes, rfl⟩ | hfresh
  · rw [clearStall_valid] at hfv
    rw [clearStall_opId]
    exact released_older_than_stalled hcore hd he hdv hfv hds hes
  · exact hdec d (mem_validSlots.mpr ⟨hd, hdv⟩) f hfresh

/-- The mispredicted branch in flight is the youngest instruction: when it retires nothing is behind
it. -/
theorem not_isMispred_of_mem_behindMemory (hret : mispredRetires s.latchMa = true) {x : Slot}
    (hx : x ∈ s.behindMemory) : x.isMispred = false := by
  obtain ⟨m, hm, hmv⟩ := List.any_eq_true.mp hret
  rw [Bool.and_eq_true] at hmv
  have hm' : m ∈ validSlots s.latchMa := mem_validSlots.mpr ⟨hm, hmv.1⟩
  have hmem : m ∈ s.inFlight := by
    rw [s.inFlight_eq]
    exact List.mem_append_left _ hm'
  have hyoungest := (hcore.branch.2 m hmem hmv.2).1
  have hlt := memory_older hcore hm' hx
  have hle := opId_le_of_mem_inFlight hcore (mem_inFlight_of_mem_behindMemory hx)
  omega

/-- The instruction of the halt id is the youngest: when it retires nothing is behind it. -/
theorem behindMemory_eq_nil_of_halt (hv : s.haltIdValid = true)
    (hret : opIdRetires s.latchMa s.haltId = true) : s.behindMemory = [] := by
  obtain ⟨m, hm, hmv⟩ := List.any_eq_true.mp hret
  rw [Bool.and_eq_true, decide_eq_true_eq] at hmv
  obtain ⟨hmark, hlast, -⟩ := hcore.ending
  have hid := hlast (hmark ▸ hv)
  refine List.eq_nil_iff_forall_not_mem.mpr fun x hx => ?_
  have hlt := memory_older hcore (mem_validSlots.mpr ⟨hm, hmv.1⟩) hx
  have hle := opId_le_of_mem_inFlight hcore (mem_inFlight_of_mem_behindMemory hx)
  omega

end

end Sys2Proof.Machine
end

section
/-!
SUPPORT. The pipeline invariant in the state Fetch starts from: the stages before Fetch keep it
(42_pipeline_tick.md R110 to R116).
-/

namespace Sys2Proof.Machine

@[simp] theorem freshSlots_fetchStart (s : State) : s.fetchStart.freshSlots = [] := by
  simp [State.freshSlots, State.fetchStart]

theorem inFlight_fetchStart (s : State) :
    s.fetchStart.inFlight =
      validSlots s.latchEx ++ (validSlots (s.latchId.map executeSlot) ++ validSlots s.newId) := by
  simp only [State.inFlight, freshSlots_fetchStart, State.firstLane_latchMa,
    State.firstLane_latchEx, State.firstLane_latchId, State.beforeFetch_latchMa, State.beforeFetch_latchEx,
    State.beforeFetch_latchId, List.append_nil, List.append_assoc]

theorem mem_released {l : List Slot} {y : Slot} :
    y ∈ validSlots (l.map executeSlot) ↔
      ∃ d ∈ l, d.valid = true ∧ d.stall = false ∧ y = clearStall d := by
  simp only [mem_validSlots, List.mem_map, executeSlot_eq]
  constructor
  · rintro ⟨⟨d, hd, rfl⟩, hv⟩
    split at hv
    · next h => exact ⟨d, hd, h.1, h.2, by rw [if_pos h]⟩
    · cases hv
  · rintro ⟨d, hd, hv, hs, rfl⟩
    exact ⟨⟨d, hd, by rw [if_pos ⟨hv, hs⟩]⟩, hv⟩

theorem exists_fetch_of_mem_newId {s : State} {y : Slot} (hy : y ∈ s.newId) :
    ∃ f ∈ s.latchFe, f.opId = y.opId ∧ f.valid = y.valid ∧
      (y.stall = true → y.valid = true) ∧ (y.stall = false → y = clearStall f) := by
  obtain ⟨c, hc, rfl⟩ := mem_decodeLatch.mp hy
  obtain ⟨f, hf, rfl⟩ := List.mem_map.mp hc
  exact ⟨f, hf, rfl, rfl, valid_of_stallOf, fun h => by simp only [clearStall] at h ⊢; rw [h]⟩

theorem slotMarks_fetchStart {s : State} (hcore : PipelineCore s) : SlotMarks s.fetchStart := by
  obtain ⟨hstall, hbubble⟩ := hcore.marks
  simp only [List.mem_append] at hstall hbubble
  simp only [SlotMarks, State.firstLane_latchFe, State.firstLane_latchId, State.firstLane_latchEx,
    State.firstLane_latchMa, State.beforeFetch_latchId, State.beforeFetch_latchEx,
    State.beforeFetch_latchMa, List.nil_append, List.mem_append, List.mem_map]
  have hexec : ∀ d, (executeSlot d).stall = false ∧
      ((executeSlot d).valid = false → executeSlot d = bubble) := fun d => by
    rw [executeSlot_eq]
    split
    · next h => exact ⟨rfl, fun hv => by simp [h.1] at hv⟩
    · exact ⟨rfl, fun _ => rfl⟩
  constructor
  · rintro x (⟨d, -, rfl⟩ | hx)
    · exact (hexec d).1
    · exact hstall x (.inl (.inr hx))
  · rintro x ((hx | ⟨d, -, rfl⟩) | hx) hv
    · obtain ⟨f, hf, -, hfv, hsv, hcopy⟩ := exists_fetch_of_mem_newId hx
      have hs : x.stall = false := by
        cases h : x.stall
        · rfl
        · rw [hsv h] at hv
          cases hv
      rw [hcopy hs, hbubble f (.inl (.inl (.inl hf))) (hfv.trans hv), clearStall_bubble]
    · exact (hexec d).2 hv
    · exact hbubble x (.inl (.inr hx)) hv

section
variable {s : State} (hshape : LatchShape s) (hcore : PipelineCore s)
include hshape hcore

/-- What Decode releases and what it takes over are together the instructions behind Execute. -/
theorem released_newId_perm :
    ((validSlots (s.latchId.map executeSlot) ++ validSlots s.newId).map clearStall).Perm
      (s.behindExecute.map clearStall) := by
  obtain ⟨-, hfe, hid, -, -⟩ := hshape
  have hcopy : (validSlots s.newId).map clearStall = (validSlots s.latchFe).map clearStall := by
    simp only [← validSlots_map_clearStall, clearStall_newId]
  have hmove := released_append_held_perm (hid.trans hfe.symm) hcore.held
  rwa [List.map_append, ← hcopy, ← List.map_append] at hmove

/-- The stages before Fetch move the instructions on and retire those of the Memory latch; they lose
none and hold none twice (10_state.md R25 item 6). -/
theorem inFlight_fetchStart_perm :
    (s.fetchStart.inFlight.map clearStall).Perm (s.behindMemory.map clearStall) := by
  rw [inFlight_fetchStart, State.behindMemory, List.map_append,
    List.map_append (l₂ := s.behindExecute)]
  exact (released_newId_perm hshape hcore).append_left _

theorem exists_fetchStart_of_mem_behindMemory {x : Slot} (hx : x ∈ s.behindMemory) :
    ∃ y ∈ s.fetchStart.inFlight, clearStall y = clearStall x :=
  List.mem_map.mp ((inFlight_fetchStart_perm hshape hcore).mem_iff.mpr (List.mem_map_of_mem hx))

/-- Of an instruction that Fetch starts with: its `op_id`, record and misprediction mark are those of
one that was in flight behind the Memory latch. -/
theorem exists_behindMemory_of_mem_fetchStart {y : Slot} (hy : y ∈ s.fetchStart.inFlight) :
    ∃ x ∈ s.behindMemory, x.opId = y.opId ∧ x.record = y.record ∧ x.isMispred = y.isMispred := by
  obtain ⟨x, hx, he⟩ := List.mem_map.mp
    ((inFlight_fetchStart_perm hshape hcore).mem_iff.mp (List.mem_map_of_mem hy))
  exact ⟨x, hx, (congrArg Slot.opId he :), (congrArg Slot.record he :),
    (congrArg Slot.isMispred he :)⟩

theorem length_inFlight_fetchStart :
    s.inFlight.length = (validSlots s.latchMa).length + s.fetchStart.inFlight.length := by
  have := (inFlight_fetchStart_perm hshape hcore).length_eq
  rw [List.length_map, List.length_map] at this
  rw [s.inFlight_eq, List.length_append, this]

theorem programOrder_fetchStart : ProgramOrder s.fetchStart := by
  have hl : s.latchId.length = s.latchFe.length := by
    obtain ⟨-, hfe, hid, -, -⟩ := hshape
    exact hid.trans hfe.symm
  obtain ⟨hnodup, -, hex, -, -, hbound⟩ := hcore.order
  have hperm := inFlight_fetchStart_perm hshape hcore
  simp only [ProgramOrder, freshSlots_fetchStart, List.append_nil]
  refine ⟨?_, ?_, ?_, fun _ _ _ h => (List.not_mem_nil h).elim, List.Pairwise.nil, ?_⟩
  · have hids := hperm.map fun x => x.opId
    rw [List.map_map, List.map_map] at hids
    refine hids.nodup_iff.mpr ?_
    rw [s.inFlight_eq, List.map_append] at hnodup
    exact hnodup.of_append_right
  · intro a ha y hy
    rw [State.firstLane_latchMa, State.beforeFetch_latchMa] at ha
    rw [State.firstLane_latchEx, State.firstLane_latchId, State.beforeFetch_latchEx,
      State.beforeFetch_latchId] at hy
    obtain ⟨x, hx, he⟩ := List.mem_map.mp
      ((released_newId_perm hshape hcore).mem_iff.mp (List.mem_map_of_mem hy))
    exact (hex a ha x hx).trans_eq (congrArg Slot.opId he :)
  · intro a ha b hb
    rw [State.firstLane_latchEx, State.beforeFetch_latchEx] at ha
    obtain ⟨d, hd, hdv, hds, rfl⟩ := mem_released.mp ha
    obtain ⟨hb, hbv⟩ := mem_validSlots.mp hb
    rw [State.firstLane_latchId, State.beforeFetch_latchId] at hb
    obtain ⟨f, hf, hfid, hfv, -⟩ := exists_fetch_of_mem_newId hb
    rw [← hfid, clearStall_opId]
    exact released_older_than_fetch hcore hl hd hdv hds hf (hfv.trans hbv)
  · intro y hy
    obtain ⟨x, hx, hxid, -⟩ := exists_behindMemory_of_mem_fetchStart hshape hcore hy
    rw [State.firstLane_statRetired, State.beforeFetch_statRetired, State.firstLane_opidCtr,
      State.beforeFetch_opidCtr, ← hxid]
    exact ⟨retired_lt_of_mem_behindMemory hcore hx,
      opId_le_of_mem_inFlight hcore (mem_inFlight_of_mem_behindMemory hx)⟩

theorem fetchStallMark_fetchStart : FetchStallMark s.fetchStart := by
  obtain ⟨hiff, hyoungest⟩ := hcore.branch
  constructor
  · rw [State.firstLane_fetchStall, State.beforeFetch_fetchStall, Bool.and_eq_true,
      Bool.not_eq_true']
    constructor
    · rintro ⟨hstall, hstays⟩
      obtain ⟨x, hx, hm⟩ := hiff.mp hstall
      rw [s.inFlight_eq, List.mem_append] at hx
      rcases hx with hx | hx
      · obtain ⟨hx, hv⟩ := mem_validSlots.mp hx
        have := List.any_eq_false.mp hstays x hx
        simp [hv, hm] at this
      · obtain ⟨y, hy, he⟩ := exists_fetchStart_of_mem_behindMemory hshape hcore hx
        exact ⟨y, hy, (congrArg Slot.isMispred he :).trans hm⟩
    · rintro ⟨y, hy, hm⟩
      obtain ⟨x, hx, -, -, hxm⟩ := exists_behindMemory_of_mem_fetchStart hshape hcore hy
      rw [← hxm] at hm
      refine ⟨hiff.mpr ⟨x, mem_inFlight_of_mem_behindMemory hx, hm⟩, ?_⟩
      cases hret : mispredRetires s.latchMa
      · rfl
      · rw [not_isMispred_of_mem_behindMemory hcore hret hx] at hm
        cases hm
  · intro y hy hm
    obtain ⟨x, hx, hid, hrec, hxm⟩ := exists_behindMemory_of_mem_fetchStart hshape hcore hy
    have := hyoungest x (mem_inFlight_of_mem_behindMemory hx) (hxm.trans hm)
    rw [hid, hrec] at this
    simpa using this

theorem haltedEmpty_fetchStart (hh : s.halt = false) : HaltedEmpty s.fetchStart := by
  intro halt
  rw [State.firstLane_halt, State.beforeFetch_halt, hh, Bool.false_or, Bool.and_eq_true] at halt
  obtain ⟨hv, hret⟩ := halt
  have hperm := inFlight_fetchStart_perm hshape hcore
  rw [behindMemory_eq_nil_of_halt hcore hv hret] at hperm
  refine ⟨List.map_eq_nil_iff.mp (List.perm_nil.mp hperm), ?_⟩
  simpa [hcore.ending.1] using hv

theorem countsAgree_fetchStart : CountsAgree s.fetchStart := by
  obtain ⟨hsum, hpos, hend, hmis, hbr, hperfect⟩ := hcore.counts
  have hlen := length_inFlight_fetchStart hshape hcore
  refine ⟨?_, ?_, ?_, ?_, ?_, ?_⟩
  · simp only [State.firstLane_statRetired, State.beforeFetch_statRetired, State.firstLane_opidCtr,
      State.beforeFetch_opidCtr]
    omega
  all_goals simpa

/-- The stages before Fetch keep the invariant. -/
theorem pipelineCore_fetchStart (hh : s.halt = false) : PipelineCore s.fetchStart where
  marks := slotMarks_fetchStart hcore
  held := by simp [HeldPairs]
  order := programOrder_fetchStart hshape hcore
  stalls := fun a ha b hb _ hv hlt hs =>
    decodeLatch_stalls_inOrder (by simpa using ha) (by simpa using hb) hv hlt hs
  branch := fetchStallMark_fetchStart hshape hcore
  ending := by simpa [EndMark] using hcore.ending
  counts := countsAgree_fetchStart hshape hcore
  halted := haltedEmpty_fetchStart hshape hcore hh
  table := by simpa using hcore.table

end

end Sys2Proof.Machine
end

section
/-!
SUPPORT. The pipeline invariant through the lanes of Fetch (44_fetch_branch_resolution.md R160 to
R166): a lane that is held or gets a bubble, the end of the trace, and a lane that pulls a record.
Then the invariant over a step and over a run.
-/

namespace Sys2Proof.Machine

/-! The latches after one more lane of the Fetch latch. -/

section
variable {s t : State} {x : Slot} (hframe : FetchFrame s t) (hlane : t.latchFe = s.latchFe ++ [x])
include hframe hlane

theorem freshSlots_of_lane (hlt : s.latchFe.length < s.latchId.length) :
    t.freshSlots = s.freshSlots ++ if s.laneStalled then [] else validSlots [x] := by
  rw [t.freshSlots_eq, hframe.latchId, hlane]
  exact freshOf_concat x hlt

theorem inFlight_of_lane (hlt : s.latchFe.length < s.latchId.length) :
    t.inFlight = s.inFlight ++ if s.laneStalled then [] else validSlots [x] := by
  rw [State.inFlight, freshSlots_of_lane hframe hlane hlt, hframe.latchId, hframe.latchEx,
    hframe.latchMa, ← List.append_assoc]
  rfl

theorem slotMarks_of_lane (hs : x.stall = false) (hb : x.valid = false → x = bubble)
    (h : SlotMarks s) : SlotMarks t := by
  obtain ⟨hstall, hbubble⟩ := h
  simp only [SlotMarks, hframe.latchId, hframe.latchEx, hframe.latchMa, hlane, List.mem_append,
    List.mem_singleton] at hstall hbubble ⊢
  refine ⟨?_, ?_⟩
  · rintro y (((hy | rfl) | hy) | hy)
    · exact hstall y (.inl (.inl hy))
    · exact hs
    · exact hstall y (.inl (.inr hy))
    · exact hstall y (.inr hy)
  · rintro y ((((hy | rfl) | hy) | hy) | hy)
    · exact hbubble y (.inl (.inl (.inl hy)))
    · exact hb
    · exact hbubble y (.inl (.inl (.inr hy)))
    · exact hbubble y (.inl (.inr hy))
    · exact hbubble y (.inr hy)

theorem heldPairs_of_lane (hlt : s.latchFe.length < s.latchId.length)
    (hx : s.laneStalled = true → x = clearStall (slotAt s.latchId s.lane)) (h : HeldPairs s) :
    HeldPairs t := by
  intro p hp hs
  rw [hframe.latchId, hlane, zip_concat x hlt, List.mem_append, List.mem_singleton] at hp
  rcases hp with hp | rfl
  · exact h p hp hs
  · exact hx hs

end

theorem inOrderStalls_of_frame {s t : State} (hframe : FetchFrame s t) (h : InOrderStalls s) :
    InOrderStalls t := by
  rw [InOrderStalls, hframe.latchId]
  exact h

/-! A lane that pulls nothing. -/

/-- A lane that is held, or an unstalled one that gets a bubble, keeps the invariant: no instruction
comes or goes. -/
theorem pipelineCore_fillLane {s : State} {x : Slot} (h : PipelineCore s)
    (hlt : s.latchFe.length < s.latchId.length)
    (hx : s.laneStalled = true ∧ x = clearStall (slotAt s.latchId s.lane) ∨
      s.laneStalled = false ∧ x = bubble) : PipelineCore (s.fillLane x) := by
  have hframe : FetchFrame s (s.fillLane x) := ⟨rfl, rfl, rfl, rfl, rfl, rfl, rfl, rfl, rfl⟩
  have hnone : (if s.laneStalled then [] else validSlots [x]) = [] := by
    rcases hx with ⟨hs, -⟩ | ⟨hs, rfl⟩ <;> simp [hs, validSlots, bubble]
  have hfresh : (s.fillLane x).freshSlots = s.freshSlots := by
    rw [freshSlots_of_lane hframe rfl hlt, hnone, List.append_nil]
  have hin : (s.fillLane x).inFlight = s.inFlight := by
    rw [inFlight_of_lane hframe rfl hlt, hnone, List.append_nil]
  have hstall : x.stall = false := by
    rcases hx with ⟨-, rfl⟩ | ⟨-, rfl⟩ <;> rfl
  have hbubble : x.valid = false → x = bubble := by
    rcases hx with ⟨-, rfl⟩ | ⟨-, rfl⟩
    · intro hv
      obtain ⟨-, hb⟩ := h.marks
      have hmem : slotAt s.latchId s.lane ∈ s.latchId := slotAt_mem hlt
      have hd : slotAt s.latchId s.lane = bubble := hb _ (by simp [hmem]) hv
      rw [hd, clearStall_bubble]
    · exact fun _ => rfl
  exact {
    marks := slotMarks_of_lane hframe rfl hstall hbubble h.marks
    held := heldPairs_of_lane hframe rfl hlt (fun hs => by
      rcases hx with ⟨-, he⟩ | ⟨hn, -⟩
      · exact he
      · rw [hs] at hn
        cases hn) h.held
    order := by
      simp only [ProgramOrder, hin, hfresh]
      exact h.order
    stalls := inOrderStalls_of_frame hframe h.stalls
    branch := by
      simp only [FetchStallMark, hin]
      exact h.branch
    ending := h.ending
    counts := by
      simp only [CountsAgree, hin]
      exact h.counts
    halted := by
      simp only [HaltedEmpty, hin]
      exact h.halted
    table := h.table }

/-- Recording the end keeps the invariant (10_state.md R17). -/
theorem pipelineCore_recordEnd {s : State} (h : PipelineCore s) : PipelineCore s.recordEnd :=
  ⟨h.marks, h.held, h.order, h.stalls, h.branch, ⟨rfl, fun _ => rfl, fun _ => rfl⟩, h.counts,
    fun hh => ⟨(h.halted hh).1, rfl⟩, h.table⟩

/-- Taking MalformedRecord keeps the invariant (60_exceptions.md R181). -/
theorem pipelineCore_raiseMalformed {s : State} (h : PipelineCore s) :
    PipelineCore s.raiseMalformed :=
  ⟨h.marks, h.held, h.order, h.stalls, h.branch, ⟨rfl, fun _ => rfl, fun _ => rfl⟩, h.counts,
    fun hh => ⟨(h.halted hh).1, rfl⟩, h.table⟩

/-! A lane that pulls a record. -/

/-- What running a record does to the predictor and its counters (41_branch_predictor.md R96 to R99):
at most one branch is counted, and none under PERFECT; only a CBR under GSHARE raises the
fetch-stall. -/
theorem exec_predictor {i : Instr} {s t : State} (h : exec i s = .next t) :
    (t.fetchStall = true → s.fetchStall = true ∨ (isCbr i = true ∧ s.cfg.policy = .gshare)) ∧
      (s.pht.wf = true → t.pht.wf = true) ∧
      (s.statMispred ≤ s.statBranches → t.statMispred ≤ t.statBranches) ∧
      t.statBranches ≤ s.statBranches + 1 ∧
      (s.cfg.policy = .perfect →
        t.statBranches = s.statBranches ∧ t.pht = s.pht ∧ t.ghr = s.ghr) := by
  rcases exec_cases i s with he | ⟨f, rfl, hp, he⟩
  · cases he.symm.trans h
    exact ⟨.inl, id, id, Nat.le_succ _, fun _ => ⟨rfl, rfl, rfl⟩⟩
  · cases he.symm.trans h
    refine ⟨fun _ => .inr ⟨rfl, hp⟩, fun hw => State.update_wf _ _ _ hw, fun hle => ?_, ?_, ?_⟩
    · simp only [State.resolveBranch, State.update_eq, State.placeRecord_statMispred,
        State.placeRecord_statBranches]
      split <;> omega
    · simp only [State.resolveBranch, State.update_eq, State.placeRecord_statBranches, le_refl]
    · rw [hp]
      exact fun hperfect => nomatch hperfect

/-- The cursor is inside the trace when it answers a record (20_memory.md R42). -/
theorem lt_length_of_nextResponse {s : State} {i : Instr} (h : s.nextResponse = .record i) :
    s.tsPos < s.trace.length := by
  by_contra hge
  rw [State.nextResponse, responseAt, List.getElem?_eq_none (Nat.le_of_not_lt hge)] at h
  cases h

/-- Program order after one more instruction, the youngest, is fetched into a lane. -/
theorem programOrder_append {s t : State} {x : Slot} (hframe : FetchFrame s t)
    (hin : t.inFlight = s.inFlight ++ [x]) (hfresh : t.freshSlots = s.freshSlots ++ [x])
    (hid : x.opId = s.opidCtr + 1) (hctr : t.opidCtr = s.opidCtr + 1)
    (hret : s.statRetired ≤ s.opidCtr) (h : ProgramOrder s) : ProgramOrder t := by
  obtain ⟨hnodup, hma, hex, hdec, hpair, hbound⟩ := h
  have hyoung : ∀ y ∈ s.inFlight, y.opId < x.opId := fun y hy => by
    have := (hbound y hy).2
    omega
  have hinMa : ∀ y ∈ validSlots s.latchMa, y.opId < x.opId := fun y hy =>
    hyoung y (by simp [State.inFlight, hy])
  have hinEx : ∀ y ∈ validSlots s.latchEx, y.opId < x.opId := fun y hy =>
    hyoung y (by simp [State.inFlight, hy])
  have hinId : ∀ y ∈ validSlots s.latchId, y.opId < x.opId := fun y hy =>
    hyoung y (by simp [State.inFlight, hy])
  have hinFe : ∀ y ∈ s.freshSlots, y.opId < x.opId := fun y hy =>
    hyoung y (by simp [State.inFlight, hy])
  have hadd : ∀ {older younger : List Slot}, AllOlder older younger →
      (∀ y ∈ older, y.opId < x.opId) → AllOlder older (younger ++ [x]) := fun h hx a ha b hb => by
    rcases List.mem_append.mp hb with hb | hb
    · exact h a ha b hb
    · rw [List.mem_singleton.mp hb]
      exact hx a ha
  simp only [ProgramOrder, hin, hfresh, hframe.latchId, hframe.latchEx, hframe.latchMa,
    hframe.statRetired, hctr, ← List.append_assoc]
  refine ⟨?_, hadd hma hinMa, hadd hex hinEx, hadd hdec hinId, ?_, ?_⟩
  · rw [List.map_append, List.nodup_append]
    refine ⟨hnodup, List.nodup_singleton _, ?_⟩
    intro a ha b hb
    obtain ⟨y, hy, rfl⟩ := List.mem_map.mp ha
    rw [List.mem_singleton.mp hb]
    exact (hyoung y hy).ne
  · rw [List.pairwise_append]
    exact ⟨hpair, List.pairwise_singleton _ _, fun a ha b hb => by
      rw [List.mem_singleton.mp hb]
      exact hinFe a ha⟩
  · intro y hy
    rcases List.mem_append.mp hy with hy | hy
    · have := hbound y hy
      omega
    · rw [List.mem_singleton.mp hy]
      omega

/-- The mark of the fetch-stall after one more instruction is fetched: no mispredicted branch was in
flight, so the new instruction decides it. -/
theorem fetchStallMark_append {s t : State} {x : Slot} (hin : t.inFlight = s.inFlight ++ [x])
    (hclear : s.fetchStall = false) (hstall : t.fetchStall = x.isMispred)
    (hx : x.isMispred = true →
      x.opId = t.opidCtr ∧ isCbr x.record = true ∧ t.cfg.policy = .gshare)
    (h : FetchStallMark s) : FetchStallMark t := by
  have hnew : ∀ y ∈ t.inFlight, y.isMispred = true → y = x := fun y hy hm => by
    rw [hin] at hy
    rcases List.mem_append.mp hy with hy | hy
    · rw [h.1.mpr ⟨y, hy, hm⟩] at hclear
      cases hclear
    · exact List.mem_singleton.mp hy
  refine ⟨?_, fun y hy hm => ?_⟩
  · rw [hstall]
    constructor
    · exact fun hm => ⟨x, by simp [hin], hm⟩
    · rintro ⟨y, hy, hm⟩
      rwa [← hnew y hy hm]
  · obtain rfl := hnew y hy hm
    exact hx hm

/-- The slot a pulled record becomes (44_fetch_branch_resolution.md R165). -/
def State.pulledSlot (s : State) (i : Instr) (isMispred : Bool) : Slot :=
  { record := i, opId := s.opidCtr + 1, valid := true, stall := false, isMispred := isMispred }

/-- Pulling a record keeps the invariant (44_fetch_branch_resolution.md R165, R166). -/
theorem pipelineCore_pull {s t : State} {i : Instr} (h : PipelineCore s)
    (hlt : s.latchFe.length < s.latchId.length) (hfree : s.laneStalled = false)
    (hstall : s.fetchStall = false) (heos : s.eosSeen = false)
    (hnext : s.nextResponse = .record i) (hexec : exec i s.advance = .next t) :
    PipelineCore t := by
  obtain ⟨t', m, ht', hframe', hpos, hctr, hlane, hfs, he, hhid, hhv, hfatal⟩ :=
    exec_spec i s.advance
  cases hexec.symm.trans ht'
  obtain ⟨hcbr, hwf, hmis, hbr, hperfect⟩ := exec_predictor hexec
  have hframe : FetchFrame s t :=
    FetchFrame.trans (t := s.advance) ⟨rfl, rfl, rfl, rfl, rfl, rfl, rfl, rfl, rfl⟩ hframe'
  replace hlane : t.latchFe = s.latchFe ++ [s.pulledSlot i m] := hlane
  replace hctr : t.opidCtr = s.opidCtr + 1 := hctr
  replace hpos : t.tsPos = s.tsPos + 1 := hpos
  replace hfs : t.fetchStall = m := by simpa [hstall] using hfs
  have hnew : (if s.laneStalled then [] else validSlots [s.pulledSlot i m]) =
      [s.pulledSlot i m] := by
    rw [hfree]
    rfl
  have hfresh : t.freshSlots = s.freshSlots ++ [s.pulledSlot i m] := by
    rw [freshSlots_of_lane hframe hlane hlt, hnew]
  have hin : t.inFlight = s.inFlight ++ [s.pulledSlot i m] := by
    rw [inFlight_of_lane hframe hlane hlt, hnew]
  obtain ⟨hsum, hcur, -, hmisle, hbrle, hperfect0⟩ := h.counts
  constructor
  case marks => exact slotMarks_of_lane hframe hlane rfl (fun hv => nomatch hv) h.marks
  case held => exact heldPairs_of_lane hframe hlane hlt (fun hs => by simp [hfree] at hs) h.held
  case order => exact programOrder_append hframe hin hfresh rfl hctr (by omega) h.order
  case stalls => exact inOrderStalls_of_frame hframe h.stalls
  case branch =>
    refine fetchStallMark_append hin hstall hfs (fun hm => ?_) h.branch
    rcases hcbr (hfs.trans hm) with hold | hgshare
    · exact absurd hold (by simp [hstall])
    · exact ⟨hctr.symm, hgshare.1, by rw [hframe.cfg]; exact hgshare.2⟩
  case ending =>
    obtain ⟨hmark, -, hfat⟩ := h.ending
    rw [EndMark, hhv, he, hfatal]
    refine ⟨hmark, fun hf => ?_, hfat⟩
    rw [State.advance_eosSeen, heos] at hf
    cases hf
  case counts =>
    refine ⟨?_, ?_, ?_, hmis hmisle, ?_, fun hp => ?_⟩
    · rw [hframe.statRetired, hin, List.length_append, List.length_singleton, hctr]
      omega
    · rw [hpos, hctr, hcur]
    · rw [hpos, hframe.responses]
      exact lt_length_of_nextResponse hnext
    · rw [State.advance_statBranches] at hbr
      omega
    · rw [hframe.cfg] at hp
      obtain ⟨hb, hpht, hghr⟩ := hperfect hp
      rw [hb, hpht, hghr]
      exact hperfect0 hp
  case halted =>
    intro hh
    rw [hframe.halt] at hh
    rw [(h.halted hh).2] at heos
    cases heos
  case table => exact hwf h.table

/-! All the lanes. -/

/-- One lane of Fetch keeps the invariant, where the Fetch latch the tick found has each stalled
instruction at its lane. -/
theorem pipelineCore_fetchLane {old : List Slot} {s t : State} (h : PipelineCore s)
    (hold : ∀ l, (slotAt s.latchId l).stall = true → slotAt old l = clearStall (slotAt s.latchId l))
    (hlt : s.latchFe.length < s.latchId.length) (hlane : s.fetchLane old = .next t) :
    PipelineCore t := by
  rcases s.fetchLane_cases old with ⟨hs, he⟩ | ⟨hs, -, he⟩ | ⟨hs, hf, heos, hcases⟩
  · cases he.symm.trans hlane
    exact pipelineCore_fillLane h hlt (.inl ⟨hs, hold _ hs⟩)
  · cases he.symm.trans hlane
    exact pipelineCore_fillLane h hlt (.inr ⟨hs, rfl⟩)
  · rcases hcases with ⟨i, hnext, he⟩ | ⟨-, he⟩ | ⟨-, he⟩
    · exact pipelineCore_pull h hlt hs hf heos hnext (he.symm.trans hlane)
    · cases he.symm.trans hlane
      exact pipelineCore_fillLane (pipelineCore_recordEnd h) hlt (.inr ⟨hs, rfl⟩)
    · cases he.symm.trans hlane
      exact pipelineCore_fillLane (pipelineCore_raiseMalformed h) hlt (.inr ⟨hs, rfl⟩)

/-- The lanes of Fetch keep the invariant, up to the last lane of the Decode latch. -/
theorem pipelineCore_fetchLanes {old : List Slot} : ∀ {lanes : Nat} {s t : State}, PipelineCore s →
    (∀ l, (slotAt s.latchId l).stall = true → slotAt old l = clearStall (slotAt s.latchId l)) →
    s.latchFe.length + lanes ≤ s.latchId.length → fetchLanes old lanes s = .next t → PipelineCore t
  | 0, s, t, h, _, _, ht => by
    cases ht
    exact h
  | lanes + 1, s, t, h, hold, hle, ht => by
    obtain ⟨u, x, hu, hframe, hfe⟩ := s.fetchLane_spec old
    rw [fetchLanes, hu] at ht
    refine pipelineCore_fetchLanes (pipelineCore_fetchLane h hold (by omega) hu) ?_ ?_ ht
    · rwa [hframe.latchId]
    · rw [hframe.latchId, hfe, List.length_append, List.length_singleton]
      omega

/-- Decode leaves a stalled instruction in the Fetch latch at its lane (10_state.md R25 item 6). -/
theorem slotAt_latchFe_of_newId_stall {s : State} (h : SlotMarks s) {l : Nat}
    (hs : (slotAt s.newId l).stall = true) :
    slotAt s.latchFe l = clearStall (slotAt s.newId l) := by
  simp only [slotAt, List.getD_eq_getElem?_getD, decodeLatch_getElem?] at hs ⊢
  cases hf : s.latchFe[l]? with
  | none => simp [hf, bubble] at hs
  | some f =>
    have hstall : f.stall = false := h.1 f (by simp [List.mem_of_getElem? hf])
    exact (clearStall_of_stall_eq_false hstall).symm

/-- A tick keeps the pipeline invariant. -/
theorem pipelineInv_tick {s t : State} (h : PipelineInv s) (hh : s.halt = false)
    (ht : s.tick = .next t) : PipelineInv t := by
  obtain ⟨hshape, hcore⟩ := pipelineInv_iff.mp h
  obtain ⟨u, hu, hframe, hfe⟩ := s.beforeFetch.fetch_spec
  cases hu.symm.trans ht
  refine pipelineInv_iff.mpr ⟨?_, ?_⟩
  · obtain ⟨hn, hfe0, hid, hex, -⟩ := hshape
    simp only [LatchShape, hframe.cfg, hframe.latchId, hframe.latchEx, hframe.latchMa, hfe]
    simp [hn, hfe0, hid, hex, decodeLatch_length, decodeCopy_length]
  · have hfe0 : s.latchFe.length = s.cfg.n := by
      obtain ⟨-, hfe0, -⟩ := hshape
      exact hfe0
    refine pipelineCore_fetchLanes (pipelineCore_fetchStart hshape hcore hh)
      (fun l hs => ?_) ?_ (s.tick_eq.symm.trans ht)
    · rw [State.firstLane_latchId, State.beforeFetch_latchId] at hs ⊢
      exact slotAt_latchFe_of_newId_stall hcore.marks hs
    · simp [decodeLatch_length, decodeCopy_length, hfe0]

/-- Settles O51: the core of the invariant holds at reset, in the state Fetch starts from, and after
each lane of Fetch. -/
theorem stepKeepsThePipelineInvariant : Obligations.StepKeepsThePipelineInvariant := by
  intro s h
  have ⟨⟨hn, _⟩, _⟩ := h
  cases hr : s.rst with
  | true => exact ⟨s.resetEdge, step_of_reset hn hr, pipelineInv_resetEdge hn⟩
  | false =>
    cases hh : s.halt with
    | true => exact ⟨s, step_of_halted hn hr hh, h⟩
    | false =>
      obtain ⟨t, hstep, ht, -⟩ := step_of_ticking ⟨hn, hr, hh⟩
      exact ⟨t, hstep, pipelineInv_tick h hh ht⟩

/-- A run of one more step is the step, then the run. -/
theorem run_succ_of_step (k : Nat) {s u : State} (h : step s = .next u) :
    Sys2Proof.core.run (k + 1) s = Sys2Proof.core.run k u := by
  have hstep : Sys2Proof.core.step s = .next u := h
  simp only [Host.Core.run, hstep]

/-- Every state of a run from a state that meets the pipeline invariant meets it. -/
theorem run_pipelineInv : ∀ (k : Nat) {s : State}, PipelineInv s →
    ∃ t, Sys2Proof.core.run k s = .next t ∧ PipelineInv t
  | 0, s, h => ⟨s, rfl, h⟩
  | k + 1, s, h => by
    obtain ⟨u, hu, hinv⟩ := stepKeepsThePipelineInvariant s h
    obtain ⟨t, ht, hend⟩ := run_pipelineInv k hinv
    exact ⟨t, (run_succ_of_step k hu).trans ht, hend⟩

/-- Settles O52, from the invariant of every run. -/
theorem haltedRunsRetiredEveryRecord : Obligations.HaltedRunsRetiredEveryRecord := by
  intro cfg responses k hn
  obtain ⟨t, ht, hinv⟩ := run_pipelineInv k (pipelineInv_resetWith responses hn)
  obtain ⟨-, hcore⟩ := pipelineInv_iff.mp hinv
  obtain ⟨hsum, hpos, -⟩ := hcore.counts
  refine ⟨t, ht, hsum, hpos, fun hh => ?_⟩
  obtain ⟨hempty, -⟩ := hcore.halted hh
  rw [hempty, List.length_nil, Nat.add_zero] at hsum
  exact ⟨hsum.trans hpos.symm, hempty⟩

end Sys2Proof.Machine
end

section
/-!
SUPPORT. One lane of Fetch by its case, as equations (44_fetch_branch_resolution.md R161 to R164).
-/

namespace Sys2Proof.Machine

variable {s : State}

theorem fetchLane_of_stalled (old : List Slot) (h : s.laneStalled = true) :
    s.fetchLane old = .next (s.fillLane (slotAt old s.lane)) := if_pos h

theorem fetchLane_of_blocked (old : List Slot) (h : s.laneStalled = false)
    (hb : s.fetchStall = true ∨ s.eosSeen = true) :
    s.fetchLane old = .next (s.fillLane bubble) := by
  rcases hb with hb | hb <;> simp [State.fetchLane, h, hb]

theorem fetchLane_of_free (old : List Slot) (h : s.laneStalled = false) (hf : s.fetchStall = false)
    (he : s.eosSeen = false) : s.fetchLane old = s.fetchAttempt := by
  simp [State.fetchLane, h, hf, he]

theorem fetchAttempt_of_record {i : Instr} (h : s.nextResponse = .record i) :
    s.fetchAttempt = exec i s.advance := by
  rw [State.fetchAttempt, h]

theorem fetchAttempt_of_endOfStream (h : s.nextResponse = .endOfStream) :
    s.fetchAttempt = .next (s.recordEnd.fillLane bubble) := by
  rw [State.fetchAttempt, h]

theorem fetchAttempt_of_malformed (h : s.nextResponse = .malformed) :
    s.fetchAttempt = .next (s.raiseMalformed.fillLane bubble) := by
  rw [State.fetchAttempt, h]

/-- A lane of Fetch moves the cursor by at most one (20_memory.md R42). -/
theorem fetchLane_tsPos {old : List Slot} {t : State} (h : s.fetchLane old = .next t) :
    t.tsPos = s.tsPos ∨ t.tsPos = s.tsPos + 1 := by
  rcases s.fetchLane_cases old with ⟨-, he⟩ | ⟨-, -, he⟩ | ⟨-, -, -, ⟨i, -, he⟩ | ⟨-, he⟩ | ⟨-, he⟩⟩
  · cases he.symm.trans h
    exact .inl rfl
  · cases he.symm.trans h
    exact .inl rfl
  · obtain ⟨u, m, hu, -, hpos, -⟩ := exec_spec i s.advance
    cases (he.trans hu).symm.trans h
    exact .inr hpos
  · cases he.symm.trans h
    exact .inl rfl
  · cases he.symm.trans h
    exact .inl rfl

end Sys2Proof.Machine
end

section
/-!
SUPPORT. The trace a tick reads (20_memory.md R42, 44_fetch_branch_resolution.md R171): no stage but
Fetch reads it, and the lanes of Fetch read it at the cursor and the responses right behind it.
-/

namespace Sys2Proof.Machine

/-- The machine with another trace. -/
def State.withTrace (s : State) (responses : List ResponseWord) : State :=
  { s with trace := responses }

theorem beforeFetch_withTrace (s : State) (responses : List ResponseWord) :
    (s.withTrace responses).beforeFetch = s.beforeFetch.withTrace responses := by
  rw [State.beforeFetch_eq, State.beforeFetch_eq]
  rfl

/-- No record reads the trace: running it commutes with another trace. -/
theorem exec_withTrace {i : Instr} {s t : State} (responses : List ResponseWord)
    (h : exec i s = .next t) : exec i (s.withTrace responses) = .next (t.withTrace responses) := by
  cases i with
  | alu f | load f | store f | other f =>
    cases h
    rfl
  | cbr f =>
    have hcfg : (s.withTrace responses).cfg = s.cfg := rfl
    simp only [exec, execCbr, hcfg] at h ⊢
    cases hp : s.cfg.policy with
    | perfect =>
      rw [hp] at h
      cases h
      rfl
    | gshare =>
      rw [hp] at h
      cases h
      simp only [State.resolveBranch, State.predict, State.update, hp, hcfg]
      rfl

/-- A lane of Fetch reads the one response at the cursor. -/
theorem fetchLane_withTrace {old : List Slot} {s t : State} {responses : List ResponseWord}
    (hresp : responseAt responses s.tsPos = responseAt s.trace s.tsPos)
    (h : s.fetchLane old = .next t) :
    (s.withTrace responses).fetchLane old = .next (t.withTrace responses) := by
  have hnext : (s.withTrace responses).nextResponse = s.nextResponse := hresp
  cases hs : s.laneStalled with
  | true =>
    rw [fetchLane_of_stalled old hs] at h
    cases h
    exact fetchLane_of_stalled old hs
  | false =>
    by_cases hb : s.fetchStall = true ∨ s.eosSeen = true
    · rw [fetchLane_of_blocked old hs hb] at h
      cases h
      exact fetchLane_of_blocked old hs hb
    · obtain ⟨hf, he⟩ := not_or.mp hb
      rw [Bool.not_eq_true] at hf he
      rw [fetchLane_of_free old hs hf he] at h
      rw [fetchLane_of_free (s := s.withTrace responses) old hs hf he]
      cases hr : s.nextResponse with
      | record i =>
        rw [fetchAttempt_of_record hr] at h
        rw [fetchAttempt_of_record (hnext.trans hr)]
        exact exec_withTrace responses h
      | endOfStream =>
        rw [fetchAttempt_of_endOfStream hr] at h
        cases h
        exact fetchAttempt_of_endOfStream (hnext.trans hr)
      | malformed =>
        rw [fetchAttempt_of_malformed hr] at h
        cases h
        exact fetchAttempt_of_malformed (hnext.trans hr)

/-- Any number of lanes of Fetch read no further than that many responses from the cursor on. -/
theorem fetchLanes_withTrace {old : List Slot} {responses : List ResponseWord} :
    ∀ {lanes : Nat} {s t : State},
      (∀ j < lanes, responseAt responses (s.tsPos + j) = responseAt s.trace (s.tsPos + j)) →
      fetchLanes old lanes s = .next t →
      fetchLanes old lanes (s.withTrace responses) = .next (t.withTrace responses)
  | 0, s, t, _, h => by
    cases h
    rfl
  | lanes + 1, s, t, hresp, h => by
    obtain ⟨u, x, hu, hframe, -⟩ := s.fetchLane_spec old
    rw [fetchLanes, hu] at h
    rw [fetchLanes, fetchLane_withTrace (hresp 0 (Nat.succ_pos _)) hu]
    refine fetchLanes_withTrace (fun j hj => ?_) h
    rw [hframe.responses]
    rcases fetchLane_tsPos hu with hpos | hpos
    · rw [hpos]
      exact hresp j (by omega)
    · rw [hpos, Nat.add_assoc, Nat.add_comm 1]
      exact hresp (j + 1) (by omega)

/-- The response at a position is that of the word the window shows there (10_state.md R35). -/
theorem responseAt_eq_decodeResponse (responses : List ResponseWord) (pos : Nat) :
    responseAt responses pos =
      decodeResponse (responses.getD pos (encodeResponse .endOfStream)) := by
  have hend : decodeResponse (encodeResponse .endOfStream) = .endOfStream := by decide
  rw [responseAt, List.getD_eq_getElem?_getD]
  cases responses[pos]? with
  | none => exact hend.symm
  | some r => rfl

theorem responseAt_of_tsWindow {s : State} {responses : List ResponseWord}
    (h : (s.withTrace responses).tsWindow = s.tsWindow) {j : Nat} (hj : j < s.cfg.n) :
    responseAt responses (s.tsPos + j) = responseAt s.trace (s.tsPos + j) := by
  rw [responseAt_eq_decodeResponse, responseAt_eq_decodeResponse]
  exact congrArg decodeResponse (List.map_inj_left.mp h j (List.mem_range.mpr hj))

/-- Settles O27: the N lanes of Fetch read the trace through the window. -/
theorem tickReadsOnlyTheTraceWindow : Obligations.TickReadsOnlyTheTraceWindow := by
  intro s responses hs hwindow
  obtain ⟨t, hstep, htick, -⟩ := step_of_ticking hs
  refine ⟨t, hstep, ?_⟩
  have htick' : (s.withTrace responses).tick = .next (t.withTrace responses) := by
    rw [State.tick_eq] at htick ⊢
    rw [beforeFetch_withTrace]
    exact fetchLanes_withTrace (s := s.fetchStart) (responses := responses)
      (fun j hj => by simpa using responseAt_of_tsWindow hwindow hj) htick
  obtain ⟨hn, hr, hh⟩ := hs
  exact (step_of_tick (s := s.withTrace responses) hn hr hh).trans htick'

end Sys2Proof.Machine
end

section
/-!
SUPPORT. The decoder reads back what the encoder writes (30_encoding.md R60, R61, R66).
-/

namespace Sys2Proof

@[simp] theorem Direction.ofBit_bit (d : Direction) : Direction.ofBit d.bit[0] = d := by
  cases d <;> rfl

/-- The fields stand in the word where the decoder looks for them (30_encoding.md R60). -/
theorem decodeFields_encode (i : Instr) : decodeFields (encode i) = i.fields := by
  have hbits : (encode i).extractLsb' 0 64 = i.fields.addr ∧
      (encode i).extractLsb' 72 8 = i.fields.dest ∧ (encode i).extractLsb' 80 8 = i.fields.src1 ∧
      (encode i).extractLsb' 88 8 = i.fields.src2 := by
    simp (disch := omega) only [encode, BitVec.extractLsb'_append_eq_of_le,
      BitVec.extractLsb'_append_eq_of_add_le]
    simp
  obtain ⟨haddr, hdest, hsrc1, hsrc2⟩ := hbits
  have hflags : (encode i).getLsbD 96 = i.fields.destNeeded ∧
      (encode i).getLsbD 97 = i.fields.src1Needed ∧ (encode i).getLsbD 98 = i.fields.src2Needed ∧
      (encode i).getLsbD 99 = i.fields.ccRead ∧ (encode i).getLsbD 100 = i.fields.ccWrite ∧
      Direction.ofBit ((encode i).getLsbD 101) = i.fields.brDir := by
    simp only [encode, BitVec.getLsbD_append]
    simp
  obtain ⟨hd, h1, h2, hr, hw, hb⟩ := hflags
  simp only [decodeFields, haddr, hdest, hsrc1, hsrc2, hd, h1, h2, hr, hw, hb]

/-- No bit of a record is lost in its word. -/
theorem decodeRecord_encode (i : Instr) : decodeRecord (encode i) = .ok i := by
  rw [decodeRecord, if_pos (Laws.EncodedKind.reserved_encode i), Laws.EncodedKind.kind_encode,
    decodeFields_encode]
  cases i <;> rfl

theorem responseTag_responseWord (tag : BitVec 2) (w : RecordWord) :
    responseTag (responseWord tag w) = tag := BitVec.extractLsb'_append_eq_left

theorem responseRecord_responseWord (tag : BitVec 2) (w : RecordWord) :
    responseRecord (responseWord tag w) = w := BitVec.extractLsb'_append_eq_right

/-- A response word stands for the response it was made of (30_encoding.md R66). -/
theorem decodeResponse_encodeResponse (r : Response) : decodeResponse (encodeResponse r) = r := by
  cases r with
  | record i =>
    simp [decodeResponse, encodeResponse, responseTag_responseWord, responseRecord_responseWord,
      decodeRecord_encode]
  | endOfStream => simp [decodeResponse, encodeResponse, responseTag_responseWord]
  | malformed => simp [decodeResponse, encodeResponse, responseTag_responseWord]

end Sys2Proof
end

section
/-!
SUPPORT. Erasing the fields no rule reads (93_implementation_defined.md U2): the predictor's index, the
hazard checks and the stages before Fetch do not see it.
-/

namespace Sys2Proof.Machine

/-! Records. -/

@[simp] theorem fields_eraseRecord (i : Instr) :
    (eraseRecord i).fields = eraseFields (isCbr i) i.fields := by
  cases i <;> rfl

@[simp] theorem isLoad_eraseRecord (i : Instr) : isLoad (eraseRecord i) = isLoad i := by
  cases i <;> rfl

@[simp] theorem src1Operand_eraseFields (b : Bool) (f : RecordFields) :
    src1Operand (eraseFields b f) = src1Operand f := by
  cases h : f.src1Needed <;> simp [src1Operand, operand, eraseFields, h]

@[simp] theorem src2Operand_eraseFields (b : Bool) (f : RecordFields) :
    src2Operand (eraseFields b f) = src2Operand f := by
  cases h : f.src2Needed <;> simp [src2Operand, operand, eraseFields, h]

@[simp] theorem destOperand_eraseFields (b : Bool) (f : RecordFields) :
    destOperand (eraseFields b f) = destOperand f := by
  cases h : f.destNeeded <;> simp [destOperand, operand, eraseFields, h]

@[simp] theorem ccOverlap_eraseFields (b b' : Bool) (f g : RecordFields) :
    ccOverlap (eraseFields b f) (eraseFields b' g) = ccOverlap f g := rfl

/-- The index reads the low twelve address bits only (41_branch_predictor.md R91). -/
theorem phtIndex_and_mask (addr : Addr) (ghr : History) :
    phtIndex (addr &&& 0xFFF#64) ghr = phtIndex addr ghr := by
  have hmask : ((addr &&& 0xFFF#64) ^^^ ghr.setWidth 64) &&& 0xFFF#64 =
      (addr ^^^ ghr.setWidth 64) &&& 0xFFF#64 := by
    ext b hb
    simp only [BitVec.getElem_and, BitVec.getElem_xor]
    cases (0xFFF#64)[b] <;> simp
  rw [phtIndex, hmask, phtIndex]

/-! Slots. -/

theorem eraseSlot_of_valid {x : Slot} (h : x.valid = true) :
    eraseSlot x = { x with record := eraseRecord x.record } := if_pos h

theorem eraseSlot_opId {x : Slot} (h : x.valid = true) : (eraseSlot x).opId = x.opId := by
  rw [eraseSlot_of_valid h]

theorem eraseSlot_record {x : Slot} (h : x.valid = true) :
    (eraseSlot x).record = eraseRecord x.record := by
  rw [eraseSlot_of_valid h]

theorem eraseSlot_isMispred {x : Slot} (h : x.valid = true) :
    (eraseSlot x).isMispred = x.isMispred := by
  rw [eraseSlot_of_valid h]

theorem eraseSlot_of_not_valid {x : Slot} (h : x.valid = false) : eraseSlot x = bubble := by
  simp [eraseSlot, h]

@[simp] theorem eraseSlot_bubble : eraseSlot bubble = bubble := rfl

@[simp] theorem eraseSlot_valid (x : Slot) : (eraseSlot x).valid = x.valid := by
  cases h : x.valid
  · rw [eraseSlot_of_not_valid h]
    rfl
  · rw [eraseSlot_of_valid h]
    exact h

theorem eraseSlot_stall {x : Slot} (h : x.stall = true → x.valid = true) :
    (eraseSlot x).stall = x.stall := by
  cases hv : x.valid with
  | true => rw [eraseSlot_of_valid hv]
  | false =>
    rw [eraseSlot_of_not_valid hv]
    cases hs : x.stall
    · rfl
    · rw [h hs] at hv
      cases hv

theorem eraseSlot_clearStall (x : Slot) : eraseSlot (clearStall x) = clearStall (eraseSlot x) := by
  cases hv : x.valid <;> simp [eraseSlot, clearStall, hv, bubble]

theorem executeSlot_eraseSlot (x : Slot) :
    executeSlot (eraseSlot x) = eraseSlot (executeSlot x) := by
  cases hv : x.valid with
  | false => simp [executeSlot_eq, hv, bubble, eraseSlot]
  | true => cases hs : x.stall <;> simp [executeSlot_eq, eraseSlot, hv, hs, clearStall, bubble]

theorem slotAt_map_eraseSlot (latch : List Slot) (l : Nat) :
    slotAt (latch.map eraseSlot) l = eraseSlot (slotAt latch l) := by
  simp only [slotAt, List.getD_eq_getElem?_getD, List.getElem?_map]
  cases latch[l]? <;> rfl

/-! The hazard checks (43_hazard_detector.md R131 to R141). -/

theorem collide_eraseSlot {c p : Slot} (hc : c.valid = true) (hp : p.valid = true) :
    collide (eraseSlot c) (eraseSlot p) = collide c p := by
  simp [collide, eraseSlot_record hc, eraseSlot_record hp]

section
variable {c : Slot} (hc : c.valid = true)
include hc

theorem idHazard_eraseSlot (latch : List Slot) :
    idHazard (latch.map eraseSlot) (eraseSlot c) = idHazard latch c := by
  rw [idHazard, idHazard, List.any_map]
  congr 1
  funext p
  cases hp : p.valid with
  | false => simp [hp]
  | true => simp [hp, collide_eraseSlot hc hp, eraseSlot_opId hc, eraseSlot_opId hp]

theorem colliders_eraseSlot (latch : List Slot) :
    colliders (latch.map eraseSlot) (eraseSlot c) = (colliders latch c).map eraseSlot := by
  rw [colliders, colliders, List.filter_map]
  congr 2
  funext p
  cases hp : p.valid with
  | false => simp [hp]
  | true => simp [hp, collide_eraseSlot hc hp, eraseSlot_opId hc, eraseSlot_opId hp]

theorem laterHazard_eraseSlot (latch : List Slot) :
    laterHazard (latch.map eraseSlot) (eraseSlot c) = laterHazard latch c := by
  rw [laterHazard, laterHazard, colliders_eraseSlot hc, List.isEmpty_map]

end

theorem youngest_mem {l : List Slot} {q : Slot} (h : youngest l = some q) : q ∈ l := by
  induction l generalizing q with
  | nil => cases h
  | cons p t ih =>
    rw [youngest] at h
    cases hy : youngest t with
    | none =>
      simp only [hy, Option.some.injEq] at h
      simp [h]
    | some y =>
      simp only [hy] at h
      split at h <;> cases h
      · exact List.mem_cons_self
      · exact List.mem_cons_of_mem _ (ih hy)

theorem youngest_map_eraseSlot : ∀ {l : List Slot}, (∀ x ∈ l, x.valid = true) →
    youngest (l.map eraseSlot) = (youngest l).map eraseSlot
  | [], _ => rfl
  | p :: t, h => by
    have ih := youngest_map_eraseSlot fun x hx => h x (List.mem_cons_of_mem p hx)
    rw [List.map_cons, youngest, ih, youngest]
    cases hy : youngest t with
    | none => rfl
    | some q =>
      have hq : (eraseSlot q).opId = q.opId :=
        eraseSlot_opId (h q (List.mem_cons_of_mem p (youngest_mem hy)))
      simp only [Option.map_some, hq, eraseSlot_opId (h p List.mem_cons_self)]
      split <;> rfl

theorem loadUse_map_eraseSlot (reading : LoadUseReading) {l : List Slot}
    (h : ∀ x ∈ l, x.valid = true) : loadUse reading (l.map eraseSlot) = loadUse reading l := by
  have hload : ∀ x ∈ l, isLoad (eraseSlot x).record = isLoad x.record := fun x hx => by
    rw [eraseSlot_record (h x hx), isLoad_eraseRecord]
  cases reading with
  | anyLoad =>
    rw [loadUse, loadUse, List.any_map, Bool.eq_iff_iff, List.any_eq_true, List.any_eq_true]
    exact exists_congr fun x => and_congr_right fun hx => by rw [Function.comp_apply, hload x hx]
  | youngestLoad =>
    rw [loadUse, loadUse, youngest_map_eraseSlot h]
    cases hy : youngest l with
    | none => rfl
    | some q => exact hload q (youngest_mem hy)

theorem exUnresolved_eraseSlot {c : Slot} (hc : c.valid = true) (cfg : Config) (ex : List Slot) :
    exUnresolved cfg (ex.map eraseSlot) (eraseSlot c) = exUnresolved cfg ex c := by
  rw [exUnresolved, exUnresolved, colliders_eraseSlot hc,
    loadUse_map_eraseSlot _ fun x hx => (mem_colliders.mp hx).2.1]

theorem preStall_eraseSlot (cfg : Config) (dec ex ma : List Slot) (c : Slot) :
    preStall cfg (dec.map eraseSlot) (ex.map eraseSlot) (ma.map eraseSlot) (eraseSlot c) =
      preStall cfg dec ex ma c := by
  cases hc : c.valid with
  | false => simp [preStall, hc]
  | true =>
    simp only [preStall, selectSource, eraseSlot_valid, idHazard_eraseSlot hc,
      laterHazard_eraseSlot hc, exUnresolved_eraseSlot hc]

theorem stallOf_eraseSlot (cfg : Config) (dec ex ma : List Slot) (c : Slot) :
    stallOf cfg (dec.map eraseSlot) (ex.map eraseSlot) (ma.map eraseSlot) (eraseSlot c) =
      stallOf cfg dec ex ma c := by
  cases hc : c.valid with
  | false => simp [stallOf, hc]
  | true =>
    rw [stallOf, stallOf, eraseSlot_valid, preStall_eraseSlot, List.any_map]
    congr 3
    funext j
    cases hj : j.valid with
    | false => simp [hj]
    | true => simp [hj, preStall_eraseSlot, eraseSlot_opId hc, eraseSlot_opId hj]

/-! The stages. -/

theorem decodeCopy_map_eraseSlot (fe : List Slot) :
    decodeCopy (fe.map eraseSlot) = (decodeCopy fe).map eraseSlot := by
  simp only [decodeCopy, List.map_map]
  exact List.map_congr_left fun x _ => (eraseSlot_clearStall x).symm

/-- Decode gives the erased slots the stall flags of the slots. -/
theorem decodeLatch_map_eraseSlot (cfg : Config) (dec ex ma : List Slot) :
    decodeLatch cfg (dec.map eraseSlot) (ex.map eraseSlot) (ma.map eraseSlot) =
      (decodeLatch cfg dec ex ma).map eraseSlot := by
  simp only [decodeLatch, List.map_map]
  refine List.map_congr_left fun c _ => ?_
  simp only [Function.comp_apply, stallOf_eraseSlot]
  cases hc : c.valid with
  | true => simp [eraseSlot, hc]
  | false => simp [eraseSlot, hc, stallOf, bubble]

theorem mispredRetires_map_eraseSlot (latch : List Slot) :
    mispredRetires (latch.map eraseSlot) = mispredRetires latch := by
  rw [mispredRetires, List.any_map]
  congr 1
  funext x
  cases hx : x.valid with
  | false => simp [hx]
  | true => simp [hx, eraseSlot_isMispred hx]

theorem opIdRetires_map_eraseSlot (latch : List Slot) (n : Nat) :
    opIdRetires (latch.map eraseSlot) n = opIdRetires latch n := by
  rw [opIdRetires, List.any_map]
  congr 1
  funext x
  cases hx : x.valid with
  | false => simp [hx]
  | true => simp [hx, eraseSlot_opId hx]

theorem map_executeSlot_map_eraseSlot (dec : List Slot) :
    (dec.map eraseSlot).map executeSlot = (dec.map executeSlot).map eraseSlot := by
  simp only [List.map_map]
  exact List.map_congr_left fun x _ => executeSlot_eraseSlot x

theorem newId_erase (s : State) : s.erase.newId = s.newId.map eraseSlot := by
  simp only [State.newId, ← decodeLatch_map_eraseSlot, ← map_executeSlot_map_eraseSlot,
    ← decodeCopy_map_eraseSlot]
  rfl

/-- The stages before Fetch do not see the erased fields. -/
theorem beforeFetch_erase (s : State) : s.erase.beforeFetch = s.beforeFetch.erase := by
  have hcount : (s.latchMa.map eraseSlot).countP (fun x => x.valid) =
      s.latchMa.countP fun x => x.valid := by
    rw [List.countP_map]
    congr 1
    funext x
    exact eraseSlot_valid x
  rw [State.beforeFetch_eq, State.beforeFetch_eq, newId_erase]
  simp only [State.erase, mispredRetires_map_eraseSlot, opIdRetires_map_eraseSlot,
    map_executeSlot_map_eraseSlot, hcount]

end Sys2Proof.Machine
end

section
/-!
SUPPORT. Erasing the fields no rule reads (93_implementation_defined.md U2), in Fetch and over a
whole edge.
-/

namespace Sys2Proof.Machine

/-! The trace. -/

/-- A response without the fields no rule reads. -/
def eraseAnswer : Response → Response
  | .record i => .record (eraseRecord i)
  | .endOfStream => .endOfStream
  | .malformed => .malformed

theorem decodeResponse_eraseResponse (r : ResponseWord) :
    decodeResponse (eraseResponse r) = eraseAnswer (decodeResponse r) := by
  rw [eraseResponse, decodeResponse_encodeResponse]
  cases decodeResponse r <;> rfl

theorem nextResponse_erase (s : State) : s.erase.nextResponse = eraseAnswer s.nextResponse := by
  simp only [State.nextResponse, State.erase, responseAt, List.getElem?_map]
  cases s.trace[s.tsPos]? with
  | none => rfl
  | some r => exact decodeResponse_eraseResponse r

/-! One lane of Fetch. -/

theorem fillLane_erase (s : State) (x : Slot) :
    (s.fillLane x).erase = s.erase.fillLane (eraseSlot x) := by
  simp [State.fillLane, State.erase]

theorem placeRecord_erase (s : State) (i : Instr) (m : Bool) :
    (s.placeRecord i m).erase = s.erase.placeRecord (eraseRecord i) m :=
  fillLane_erase { s with opidCtr := s.opidCtr + 1 } _

theorem lane_erase (s : State) : s.erase.lane = s.lane := List.length_map _

/-- The predictor reads a branch's direction and the low twelve bits of its address. -/
theorem resolveBranch_erase (s : State) (f : RecordFields) :
    s.erase.resolveBranch (eraseFields true f) =
      ((s.resolveBranch f).1, (s.resolveBranch f).2.erase) := by
  have hpredict : s.erase.predict (f.addr &&& 0xFFF#64) f.brDir = s.predict f.addr f.brDir := by
    simp only [State.predict, State.erase, phtIndex_and_mask]
  have hupdate : ∀ p, s.erase.update (f.addr &&& 0xFFF#64) p f.brDir =
      (s.update f.addr p f.brDir).erase := fun p => by
    simp only [State.update_eq, State.erase, phtIndex_and_mask]
  simp only [State.resolveBranch, eraseFields, if_true, hpredict, hupdate]
  rfl

/-- Running an erased record is running the record, erased. -/
theorem exec_erase {i : Instr} {s t : State} (h : exec i s = .next t) :
    exec (eraseRecord i) s.erase = .next t.erase := by
  cases i with
  | alu f | load f | store f | other f =>
    cases h
    rw [placeRecord_erase]
    rfl
  | cbr f =>
    have hcfg : s.erase.cfg = s.cfg := rfl
    have hrec : eraseRecord (.cbr f) = .cbr (eraseFields true f) := rfl
    simp only [hrec, exec, execCbr, hcfg] at h ⊢
    cases hp : s.cfg.policy with
    | perfect =>
      rw [hp] at h
      cases h
      exact congrArg Host.Outcome.next (placeRecord_erase s (.cbr f) false).symm
    | gshare =>
      rw [hp] at h
      cases h
      simp only [resolveBranch_erase]
      exact congrArg Host.Outcome.next (placeRecord_erase _ (.cbr f) _).symm

/-- The slots of the Decode latch that Fetch looks at: a stalled one is valid
(43_hazard_detector.md R139). -/
abbrev StalledLanesValid (s : State) : Prop :=
  ∀ l, (slotAt s.latchId l).stall = true → (slotAt s.latchId l).valid = true

theorem laneStalled_erase {s : State} (h : StalledLanesValid s) :
    s.erase.laneStalled = s.laneStalled := by
  rw [State.laneStalled, lane_erase]
  exact (congrArg Slot.stall (slotAt_map_eraseSlot _ _)).trans (eraseSlot_stall (h _))

theorem fetchLane_erase {old : List Slot} {s t : State} (hvalid : StalledLanesValid s)
    (h : s.fetchLane old = .next t) : s.erase.fetchLane (old.map eraseSlot) = .next t.erase := by
  have hlane := laneStalled_erase hvalid
  have hnext := nextResponse_erase s
  cases hs : s.laneStalled with
  | true =>
    rw [fetchLane_of_stalled old hs] at h
    cases h
    rw [fetchLane_of_stalled _ (hlane.trans hs), fillLane_erase, lane_erase, slotAt_map_eraseSlot]
  | false =>
    by_cases hb : s.fetchStall = true ∨ s.eosSeen = true
    · rw [fetchLane_of_blocked old hs hb] at h
      cases h
      rw [fetchLane_of_blocked (s := s.erase) _ (hlane.trans hs) hb, fillLane_erase, eraseSlot_bubble]
    · obtain ⟨hf, he⟩ := not_or.mp hb
      rw [Bool.not_eq_true] at hf he
      rw [fetchLane_of_free old hs hf he] at h
      rw [fetchLane_of_free (s := s.erase) _ (hlane.trans hs) hf he]
      cases hr : s.nextResponse with
      | record i =>
        rw [fetchAttempt_of_record hr] at h
        rw [hr] at hnext
        rw [fetchAttempt_of_record hnext]
        exact exec_erase h
      | endOfStream =>
        rw [fetchAttempt_of_endOfStream hr] at h
        cases h
        rw [hr] at hnext
        rw [fetchAttempt_of_endOfStream hnext, fillLane_erase]
        rfl
      | malformed =>
        rw [fetchAttempt_of_malformed hr] at h
        cases h
        rw [hr] at hnext
        rw [fetchAttempt_of_malformed hnext, fillLane_erase]
        rfl

theorem fetchLanes_erase {old : List Slot} : ∀ {lanes : Nat} {s t : State}, StalledLanesValid s →
    fetchLanes old lanes s = .next t →
    fetchLanes (old.map eraseSlot) lanes s.erase = .next t.erase
  | 0, s, t, _, h => by
    cases h
    rfl
  | lanes + 1, s, t, hvalid, h => by
    obtain ⟨u, x, hu, hframe, -⟩ := s.fetchLane_spec old
    rw [fetchLanes, hu] at h
    rw [fetchLanes, fetchLane_erase hvalid hu]
    refine fetchLanes_erase (s := u) ?_ h
    rwa [StalledLanesValid, hframe.latchId]

/-! One edge. -/

theorem stalledLanesValid_fetchStart (s : State) : StalledLanesValid s.fetchStart := by
  intro l hs
  rw [State.firstLane_latchId, State.beforeFetch_latchId] at hs ⊢
  by_cases hl : l < s.newId.length
  · obtain ⟨f, -, -, -, hv, -⟩ := exists_fetch_of_mem_newId (slotAt_mem hl)
    exact hv hs
  · rw [slotAt, List.getD_eq_default _ _ (Nat.le_of_not_lt hl)] at hs
    cases hs

theorem tick_erase {s t : State} (h : s.tick = .next t) : s.erase.tick = .next t.erase := by
  rw [State.tick_eq] at h ⊢
  rw [beforeFetch_erase]
  exact fetchLanes_erase (stalledLanesValid_fetchStart s) h

theorem resetEdge_erase (s : State) : s.erase.resetEdge = s.resetEdge.erase := by
  simp [State.resetEdge, State.resetWith, State.erase]

/-- Settles O60: each stage and each lane of Fetch commutes with the erasure. -/
theorem unreadFieldsHaveNoEffect : Obligations.UnreadFieldsHaveNoEffect := by
  intro s hn
  cases hr : s.rst with
  | true =>
    refine ⟨s.resetEdge, step_of_reset hn hr, ?_⟩
    rw [← resetEdge_erase]
    exact step_of_reset (s := s.erase) hn hr
  | false =>
    cases hh : s.halt with
    | true => exact ⟨s, step_of_halted hn hr hh, step_of_halted (s := s.erase) hn hr hh⟩
    | false =>
      obtain ⟨t, hstep, htick, -⟩ := step_of_ticking ⟨hn, hr, hh⟩
      exact ⟨t, hstep, (step_of_tick (s := s.erase) hn hr hh).trans (tick_erase htick)⟩

end Sys2Proof.Machine
end

section
/-!
SUPPORT. What one edge of an instance answers, and two things every edge keeps: the inputs and the trace
(20_memory.md R52), and the canonical form of the pattern history table (20_memory.md R41, R46; log 9).
-/

namespace Sys2Proof.Machine

/-- An edge of an instance answers a next state by one of its three cases (70_reset_and_hazards.md R200,
42_pipeline_tick.md R119): the reset edge, the hold of a halted block, a tick. -/
theorem exists_step {s : State} (hn : 0 < s.cfg.n) :
    ∃ t, step s = .next t ∧
      (t = s.resetEdge ∨ t = s ∨ (s.tick = .next t ∧ FetchFrame s.beforeFetch t)) := by
  cases hr : s.rst with
  | true => exact ⟨s.resetEdge, step_of_reset hn hr, .inl rfl⟩
  | false =>
    cases hh : s.halt with
    | true => exact ⟨s, step_of_halted hn hr hh, .inr (.inl rfl)⟩
    | false =>
      obtain ⟨t, hstep, htick, hframe, -⟩ := step_of_ticking ⟨hn, hr, hh⟩
      exact ⟨t, hstep, .inr (.inr ⟨htick, hframe⟩)⟩

/-- Settles O14: the reset edge copies the inputs and the trace, and a tick writes them neither in the
stages before Fetch nor in a lane of Fetch. -/
theorem inputsAndTraceAreNeverWritten : Obligations.InputsAndTraceAreNeverWritten := by
  intro s hn
  obtain ⟨t, hstep, rfl | rfl | ⟨-, hframe⟩⟩ := exists_step hn
  · exact ⟨s.resetEdge, hstep, rfl, rfl, rfl⟩
  · exact ⟨t, hstep, rfl, rfl, rfl⟩
  · exact ⟨t, hstep, hframe.cfg.trans s.beforeFetch_cfg,
      hframe.responses.trans s.beforeFetch_trace, hframe.rst.trans s.beforeFetch_rst⟩

/-- One lane of Fetch keeps the table canonical: only a pulled record can write the table. -/
theorem fetchLane_pht_wf {old : List Slot} {s t : State} (hlane : s.fetchLane old = .next t)
    (h : s.pht.wf = true) : t.pht.wf = true := by
  rcases s.fetchLane_cases old with
    ⟨-, he⟩ | ⟨-, -, he⟩ | ⟨-, -, -, ⟨i, -, he⟩ | ⟨-, he⟩ | ⟨-, he⟩⟩
  case inr.inr.inl =>
    obtain ⟨-, hkeeps, -⟩ := exec_predictor (he.symm.trans hlane)
    exact hkeeps h
  all_goals
    cases he.symm.trans hlane
    exact h

/-- A tick keeps the table canonical: the stages before Fetch do not touch it. -/
theorem tick_pht_wf {s t : State} (htick : s.tick = .next t) (h : s.pht.wf = true) :
    t.pht.wf = true := by
  have hstart : s.fetchStart.pht.wf = true := by
    rwa [State.firstLane_pht, State.beforeFetch_pht]
  exact fetchLanes_induction (R := fun u v => u.pht.wf = true → v.pht.wf = true)
    (fun _ => id) (fun huv hvw hu => hvw (huv hu)) fetchLane_pht_wf
    (s.tick_eq.symm.trans htick) hstart

/-- Settles O49: the reset table lists no index, a halted block holds its table, and a tick writes it
only through `update`. -/
theorem stepKeepsTheTableCanonical : Obligations.StepKeepsTheTableCanonical := by
  intro s hn h
  obtain ⟨t, hstep, rfl | rfl | ⟨htick, -⟩⟩ := exists_step hn
  · exact ⟨s.resetEdge, hstep, rfl⟩
  · exact ⟨t, hstep, h⟩
  · exact ⟨t, hstep, tick_pht_wf htick h⟩

end Sys2Proof.Machine
end

section
/-!
SUPPORT. What the decoder answers, said once (30_encoding.md R60, R61, R67), and the record word as
the row of the slices the decoder cuts it into.
-/

namespace Sys2Proof

/-! The decoder's answer. -/

/-- The kind code and the fields are all there is to a record (30_encoding.md R61). -/
theorem instrOfKind_eq_ok_iff {kind : Nat} {f : RecordFields} {i : Instr} :
    instrOfKind kind f = .ok i ↔ kind = i.kindCode ∧ f = i.fields := by
  constructor
  · intro h
    unfold instrOfKind at h
    split at h <;> cases h <;> exact ⟨rfl, rfl⟩
  · rintro ⟨rfl, rfl⟩
    cases i <;> rfl

theorem instrOfKind_eq_error_iff {kind : Nat} {f : RecordFields} :
    (∃ e, instrOfKind kind f = .error e) ↔ 4 < kind := by
  match kind with
  | 0 | 1 | 2 | 3 | 4 => simp [instrOfKind]
  | k + 5 => simp [instrOfKind, show 4 < k + 5 by omega]

/-- The words that stand for the record `i` (30_encoding.md R60, R61). -/
theorem decodeRecord_eq_ok_iff {w : RecordWord} {i : Instr} :
    decodeRecord w = .ok i ↔
      wordReserved w = 0#2 ∧ (wordKind w).toNat = i.kindCode ∧ decodeFields w = i.fields := by
  by_cases hr : wordReserved w = 0#2 <;> simp [decodeRecord, hr, instrOfKind_eq_ok_iff]

/-- The malformed words (30_encoding.md R67). -/
theorem decodeRecord_eq_error_iff {w : RecordWord} :
    (∃ e, decodeRecord w = .error e) ↔ 4 < (wordKind w).toNat ∨ wordReserved w ≠ 0#2 := by
  by_cases hr : wordReserved w = 0#2
  · simpa [decodeRecord, hr] using instrOfKind_eq_error_iff
  · simp [decodeRecord, hr]

/-- The response of tag 0 over a malformed word is Malformed (30_encoding.md R66). -/
theorem decodeResponse_of_malformed {w : RecordWord} {e : DecodeError}
    (h : decodeRecord w = .error e) : decodeResponse (responseWord 0#2 w) = .malformed := by
  simp [decodeResponse, responseTag_responseWord, responseRecord_responseWord, h]

/-- Tag 1 is EndOfStream, whatever the word below it (30_encoding.md R66). -/
theorem decodeResponse_of_tag_one {r : ResponseWord} (h : responseTag r = 1#2) :
    decodeResponse r = .endOfStream := by
  rw [decodeResponse, h]
  rfl

/-- Any tag but 0 and 1 is Malformed (30_encoding.md R66). -/
theorem decodeResponse_of_tag_ne {r : ResponseWord} (h0 : responseTag r ≠ 0#2)
    (h1 : responseTag r ≠ 1#2) : decodeResponse r = .malformed := by
  unfold decodeResponse
  split
  next h => exact absurd (BitVec.eq_of_toNat_eq h) h0
  next h => exact absurd (BitVec.eq_of_toNat_eq h) h1
  next => rfl

/-- A word is decoded by naming the record it encodes. -/
theorem decodeRecord_of_encode_eq {w : RecordWord} {i : Instr} (h : encode i = w) :
    decodeRecord w = .ok i := by
  rw [← h, decodeRecord_encode]

/-! The word as a row of slices, most significant first. -/

theorem Direction.bit_ofBit (b : Bool) : (Direction.ofBit b).bit = BitVec.ofBool b := by
  cases b <;> rfl

theorem ofBool_getLsbD_eq_extractLsb' {n : Nat} (x : BitVec n) (k : Nat) :
    BitVec.ofBool (x.getLsbD k) = x.extractLsb' k 1 := by
  ext j hj
  obtain rfl : j = 0 := by omega
  simp

/-- The reserved bits by their numbers (30_encoding.md R60). -/
theorem wordReserved_ne_zero_iff {w : RecordWord} :
    wordReserved w ≠ 0#2 ↔ w.getLsbD 103 = true ∨ w.getLsbD 102 = true := by
  have hbits :
      wordReserved w = BitVec.ofBool (w.getLsbD 103) ++ BitVec.ofBool (w.getLsbD 102) := by
    rw [ofBool_getLsbD_eq_extractLsb', ofBool_getLsbD_eq_extractLsb', wordReserved,
      BitVec.extractLsb'_append_extractLsb'_eq_extractLsb']
    rfl
  rw [hbits]
  cases w.getLsbD 103 <;> cases w.getLsbD 102 <;> decide

/-- The twelve fields of 30_encoding.md R60 cover the word. -/
theorem word_eq_append_fields (w : RecordWord) :
    wordReserved w ++ w.extractLsb' 101 1 ++ w.extractLsb' 100 1 ++ w.extractLsb' 99 1 ++
      w.extractLsb' 98 1 ++ w.extractLsb' 97 1 ++ w.extractLsb' 96 1 ++ w.extractLsb' 88 8 ++
      w.extractLsb' 80 8 ++ w.extractLsb' 72 8 ++ wordKind w ++ w.extractLsb' 0 64 = w := by
  rw [wordReserved, wordKind]
  iterate 11 rw [BitVec.extractLsb'_append_extractLsb'_eq_extractLsb']
  · exact BitVec.extractLsb'_eq_self
  all_goals rfl

/-- The encoder puts every slice back where the decoder took it from. -/
theorem encode_eq_of_slices {w : RecordWord} {i : Instr} (hreserved : wordReserved w = 0#2)
    (hkind : (wordKind w).toNat = i.kindCode) (hfields : decodeFields w = i.fields) :
    encode i = w := by
  have hcode : BitVec.ofNat 8 i.kindCode = wordKind w := by
    rw [← hkind, BitVec.ofNat_toNat, BitVec.setWidth_eq]
  conv_rhs => rw [← word_eq_append_fields w]
  simp only [encode, ← hfields, hcode, hreserved, decodeFields, Direction.bit_ofBit,
    ofBool_getLsbD_eq_extractLsb']

/-- Words of the same cut are equal slice by slice. -/
theorem bitVec_append_inj {m n : Nat} {a a' : BitVec m} {b b' : BitVec n} :
    a ++ b = a' ++ b' ↔ a = a' ∧ b = b' := by
  constructor
  · intro h
    have hhigh := congrArg (BitVec.extractLsb' n m) h
    have hlow := congrArg (BitVec.extractLsb' 0 n) h
    rw [BitVec.extractLsb'_append_eq_left, BitVec.extractLsb'_append_eq_left] at hhigh
    rw [BitVec.extractLsb'_append_eq_right, BitVec.extractLsb'_append_eq_right] at hlow
    exact ⟨hhigh, hlow⟩
  · rintro ⟨rfl, rfl⟩
    rfl

/-! The row match of 30_encoding.md R61. -/

/-- What a decoder compares with the rows of the opcode table: the kind and the reserved bits. -/
def rowKey (w : RecordWord) : RecordWord := w &&& 0xc0000000ff0000000000000000#104

theorem rowKey_eq_append (w : RecordWord) :
    rowKey w = wordReserved w ++ 0#30 ++ wordKind w ++ 0#64 := by
  have hword : wordReserved w ++ w.extractLsb' 72 30 ++ wordKind w ++ w.extractLsb' 0 64 = w := by
    rw [wordReserved, wordKind]
    iterate 3 rw [BitVec.extractLsb'_append_extractLsb'_eq_extractLsb']
    · exact BitVec.extractLsb'_eq_self
    all_goals rfl
  have hmask : 0xc0000000ff0000000000000000#104 =
      BitVec.allOnes 2 ++ 0#30 ++ BitVec.allOnes 8 ++ 0#64 := by decide
  calc rowKey w
      = (wordReserved w ++ w.extractLsb' 72 30 ++ wordKind w ++ w.extractLsb' 0 64) &&&
          (BitVec.allOnes 2 ++ 0#30 ++ BitVec.allOnes 8 ++ 0#64) := by rw [hword, ← hmask, rowKey]
    _ = wordReserved w ++ 0#30 ++ wordKind w ++ 0#64 := by
        simp only [BitVec.and_append, BitVec.and_allOnes, BitVec.and_zero]

/-- The key matches the row of kind `k` (30_encoding.md R61). -/
theorem rowKey_eq_iff {w : RecordWord} (k : Fin 5) :
    rowKey w = BitVec.ofNat 104 k.val <<< 64 ↔
      wordReserved w = 0#2 ∧ (wordKind w).toNat = k.val := by
  have hrow : ∀ k : Fin 5,
      BitVec.ofNat 104 k.val <<< 64 = 0#2 ++ 0#30 ++ BitVec.ofNat 8 k.val ++ 0#64 := by decide
  have hcode : (BitVec.ofNat 8 k.val).toNat = k.val := Nat.mod_eq_of_lt (by omega)
  rw [rowKey_eq_append, hrow, BitVec.append_left_inj, bitVec_append_inj, BitVec.append_left_inj,
    ← BitVec.toNat_inj (x := wordKind w), hcode]

/-- A matched row is the constructor that decoding answers with (30_encoding.md R61). -/
theorem rowKey_eq_iff_decodeRecord {w : RecordWord} (k : Fin 5) {kind : RecordFields → Instr}
    (hcode : ∀ f, (kind f).kindCode = k.val) (hfields : ∀ f, (kind f).fields = f) :
    rowKey w = BitVec.ofNat 104 k.val <<< 64 ↔ ∃ f, decodeRecord w = .ok (kind f) := by
  simp only [rowKey_eq_iff, decodeRecord_eq_ok_iff, hcode, hfields]
  constructor
  · rintro ⟨hreserved, hkind⟩
    exact ⟨_, hreserved, hkind, rfl⟩
  · rintro ⟨f, hreserved, hkind, -⟩
    exact ⟨hreserved, hkind⟩

/-- The key matches no row exactly when the word is malformed (30_encoding.md R61, R67). -/
theorem rowKey_ne_iff_decodeRecord {w : RecordWord} :
    (∀ k : Fin 5, rowKey w ≠ BitVec.ofNat 104 k.val <<< 64) ↔
      ∃ e, decodeRecord w = .error e := by
  simp only [ne_eq, rowKey_eq_iff, decodeRecord_eq_error_iff]
  constructor
  · intro hnone
    by_contra! hlegal
    obtain ⟨hkind, hreserved⟩ := hlegal
    exact hnone ⟨_, Nat.lt_succ_of_le hkind⟩ ⟨hreserved, rfl⟩
  · rintro (hkind | hreserved) k ⟨hzero, hk⟩
    · omega
    · exact hreserved hzero

end Sys2Proof
end

section
/-!
SUPPORT. The configuration pins read back (30_encoding.md R64), and the statements about the
encoding.
-/

namespace Sys2Proof.Machine

/-- The policy pin reads back as the policy (30_encoding.md R64). -/
theorem policy_of_policyCode (p : Policy) :
    (if policyCode p = 0#1 then Policy.perfect else .gshare) = p := by
  cases p <;> rfl

/-- A toggle pin is on exactly when it is 1 (30_encoding.md R64). -/
theorem toggle_of_code (b : Bool) : decide (BitVec.ofBool b = 1#1) = b := by
  cases b <;> rfl

/-- Settles O1: every field of the record stands in the word where the decoder looks for it. -/
theorem decodeOfEncodeIsTheRecord : Obligations.DecodeOfEncodeIsTheRecord :=
  decodeRecord_encode

/-- Settles O2: a legal word is the row of the slices that its record keeps. -/
theorem encodeOfDecodeIsTheWord : Obligations.EncodeOfDecodeIsTheWord := by
  intro w i h
  obtain ⟨hreserved, hkind, hfields⟩ := decodeRecord_eq_ok_iff.mp h
  exact encode_eq_of_slices hreserved hkind hfields

/-- Settles O3, from the round trip of records. -/
theorem decodeOfEncodedResponseIsTheResponse : Obligations.DecodeOfEncodedResponseIsTheResponse :=
  decodeResponse_encodeResponse

/-- Settles O4: the malformed words by bit number, and the attempt that takes MalformedRecord. -/
theorem malformedWordsAreRefused : Obligations.MalformedWordsAreRefused := by
  intro w
  refine ⟨decodeRecord_eq_error_iff.trans (or_congr_right wordReserved_ne_zero_iff), ?_⟩
  intro s e hmalformed hword
  have hresponse : s.nextResponse = .malformed := by
    rw [State.nextResponse, responseAt, hword]
    exact decodeResponse_of_malformed hmalformed
  exact fetchAttempt_of_malformed hresponse

/-- Settles O5: the mask keeps the kind and the reserved bits, on which alone the kind depends. -/
theorem maskedWordSelectsTheKind : Obligations.MaskedWordSelectsTheKind := by
  intro w
  exact ⟨rowKey_eq_iff_decodeRecord 0 (fun _ => rfl) fun _ => rfl,
    rowKey_eq_iff_decodeRecord 1 (fun _ => rfl) fun _ => rfl,
    rowKey_eq_iff_decodeRecord 2 (fun _ => rfl) fun _ => rfl,
    rowKey_eq_iff_decodeRecord 3 (fun _ => rfl) fun _ => rfl,
    rowKey_eq_iff_decodeRecord 4 (fun _ => rfl) fun _ => rfl,
    rowKey_ne_iff_decodeRecord⟩

/-- Settles O6, by the three cases of the tag. -/
theorem tagSelectsTheResponse : Obligations.TagSelectsTheResponse := by
  intro r
  split
  next h0 =>
    rw [decodeResponse, responseTag, h0]
    rfl
  next h0 =>
    split
    next h1 => exact decodeResponse_of_tag_one h1
    next h1 => exact decodeResponse_of_tag_ne h0 h1

/-- Settles O7: each printed word is the word of the printed record. -/
theorem printedWordsDecode : Obligations.PrintedWordsDecode :=
  ⟨decodeRecord_of_encode_eq (by decide), decodeRecord_of_encode_eq (by decide),
    decodeRecord_of_encode_eq (by decide), decodeRecord_of_encode_eq (by decide),
    decodeRecord_of_encode_eq (by decide)⟩

/-- Settles O8: each pin is read back from its code. -/
theorem pinsCodeTheConfiguration : Obligations.PinsCodeTheConfiguration := by
  refine ⟨rfl, rfl, fun n p ex ma => ?_⟩
  rw [configOfPins, policy_of_policyCode, toggle_of_code, toggle_of_code]

end Sys2Proof.Machine
end

section
/-!
SUPPORT. The records at fetch and on their way down the pipeline (40_record_kinds.md R80 to R85): what
placing a record writes, how far a released Decode slot moves in one tick, and LOAD's load-use rule.
-/

namespace Sys2Proof.Machine

/-! The records without a rule of their own at fetch (40_record_kinds.md R81 to R83, R85). -/

/-- Only a CBR is resolved at fetch: every other record is placed as it is. -/
theorem exec_of_not_isCbr {i : Instr} (h : isCbr i = false) (s : State) :
    exec i s = .next (s.placeRecord i false) := by
  rcases exec_cases i s with hexec | ⟨f, rfl, -, -⟩
  · exact hexec
  · cases h

/-- Settles O17: none of the four kinds is a CBR, so the record is placed and nothing else is done. -/
theorem plainRecordsEnterTheFetchLatch : Obligations.PlainRecordsEnterTheFetchLatch := by
  intro f s i hi
  have hplain : isCbr i = false := by
    simp only [List.mem_cons, List.not_mem_nil, or_false] at hi
    rcases hi with rfl | rfl | rfl | rfl <;> rfl
  exact exec_of_not_isCbr hplain s

/-! One tick of the latches behind Fetch (42_pipeline_tick.md R115 to R117). -/

/-- A valid, unstalled Decode slot moves to Execute as it is (42_pipeline_tick.md R116). -/
theorem executeSlot_of_released {d : Slot} (hv : d.valid = true) (hs : d.stall = false) :
    executeSlot d = d := by
  rw [executeSlot_eq, if_pos ⟨hv, hs⟩, clearStall_of_stall_eq_false hs]

/-- A tick moves a valid, unstalled Decode slot to Execute at its lane. -/
theorem getElem?_map_executeSlot_of_released {dec : List Slot} {l : Nat} {d : Slot}
    (h : dec[l]? = some d) (hv : d.valid = true) (hs : d.stall = false) :
    (dec.map executeSlot)[l]? = some d := by
  rw [List.getElem?_map, h, Option.map_some, executeSlot_of_released hv hs]

/-- After a tick the block ticks on, unless that tick halted it. -/
theorem ticking_of_fetchFrame {s t : State} (h : Ticking s) (hframe : FetchFrame s.beforeFetch t)
    (hh : t.halt = false) : Ticking t := by
  obtain ⟨hn, hr, -⟩ := h
  exact ⟨by rwa [hframe.cfg, s.beforeFetch_cfg], by rwa [hframe.rst, s.beforeFetch_rst], hh⟩

/-- Settles O47: Execute takes the slot from Decode, Memory takes Execute's latch, and Write-Back counts
the valid slots of Memory's. -/
theorem retiresThreeTicksAfterDecode : Obligations.RetiresThreeTicksAfterDecode := by
  intro s l d hs hd hv hstall
  obtain ⟨t, hst, -, hframeT, -⟩ := step_of_ticking hs
  have hex : t.latchEx[l]? = some d := by
    rw [hframeT.latchEx, s.beforeFetch_latchEx]
    exact getElem?_map_executeSlot_of_released hd hv hstall
  refine ⟨t, hst, hex, fun hhaltT => ?_⟩
  have ht := ticking_of_fetchFrame hs hframeT hhaltT
  obtain ⟨u, htu, -, hframeU, -⟩ := step_of_ticking ht
  have hma : u.latchMa[l]? = some d := by
    rw [hframeU.latchMa, t.beforeFetch_latchMa, hex]
  refine ⟨u, htu, hma, fun hhaltU => ?_⟩
  obtain ⟨v, huv, -, hframeV, -⟩ := step_of_ticking (ticking_of_fetchFrame ht hframeU hhaltU)
  exact ⟨v, huv, hframeV.statRetired.trans u.beforeFetch_statRetired,
    mem_validSlots.mpr ⟨List.mem_of_getElem? hma, hv⟩⟩

/-! The load-use rule (40_record_kinds.md R82, 43_hazard_detector.md R135). -/

/-- A LOAD among the colliding producers in Execute is not waived, whatever the forwarding toggles. -/
theorem exUnresolved_of_load {cfg : Config} {ex : List Slot} {c p : Slot}
    (hreading : cfg.loadUse = .anyLoad) (hp : p ∈ colliders ex c) (hload : isLoad p.record = true) :
    exUnresolved cfg ex c = true := by
  have hany : loadUse cfg.loadUse (colliders ex c) = true := by
    rw [hreading]
    exact List.any_eq_true.mpr ⟨p, hp, hload⟩
  rw [exUnresolved, hany, Bool.or_true]

/-- An EX-source hazard that is not waived stalls the lane under both source priorities: the one source
that goes before it, Decode, always stalls. -/
theorem preStall_of_exUnresolved {cfg : Config} {dec ex ma : List Slot} {c : Slot}
    (hv : c.valid = true) (hhazard : laterHazard ex c = true)
    (hunresolved : exUnresolved cfg ex c = true) : preStall cfg dec ex ma c = true := by
  cases hpriority : cfg.sourcePriority with
  | perLane =>
    cases hid : idHazard dec c <;>
      simp [preStall, selectSource, hpriority, hv, hid, hhazard, hunresolved]
  | everyCollision => simp [preStall, hpriority, hv, hhazard, hunresolved]

/-- A valid lane stalls when an older colliding producer in Execute is a LOAD. -/
theorem stallOf_of_load {cfg : Config} {dec ex ma : List Slot} {c p : Slot}
    (hreading : cfg.loadUse = .anyLoad) (hv : c.valid = true) (hp : p ∈ colliders ex c)
    (hload : isLoad p.record = true) : stallOf cfg dec ex ma c = true :=
  stallOf_of_preStall <| preStall_of_exUnresolved hv
    (laterHazard_iff.mpr ⟨p, mem_colliders.mp hp⟩) (exUnresolved_of_load hreading hp hload)

/-- Settles O41: the tick that moves the LOAD to Execute computes the stall flag of the slot it copies
from Fetch against that Execute latch. -/
theorem loadUseAlwaysStalls : Obligations.LoadUseAlwaysStalls := by
  rintro s k l p c hs hreading hp hpv hps ⟨f, hload⟩ hc hcv hle hcollide
  obtain ⟨t, hstep, -, hframe, -⟩ := step_of_ticking hs
  have hmoved : p ∈ s.latchId.map executeSlot :=
    List.mem_of_getElem? (getElem?_map_executeSlot_of_released hp hpv hps)
  have hproducer : p ∈ colliders (s.latchId.map executeSlot) (clearStall c) :=
    mem_colliders.mpr ⟨hmoved, hpv, hle, hcollide⟩
  have hisLoad : isLoad p.record = true := by rw [hload]; rfl
  have hstall : stallOf s.cfg (decodeCopy s.latchFe) (s.latchId.map executeSlot) s.latchEx
      (clearStall c) = true := stallOf_of_load hreading hcv hproducer hisLoad
  refine ⟨t, { c with stall := true }, hstep, ?_, rfl, rfl⟩
  rw [hframe.latchId, s.beforeFetch_latchId, decodeLatch_getElem?, hc]
  exact congrArg (fun b => some { c with stall := b }) hstall

end Sys2Proof.Machine
end

section
/-!
SUPPORT. The predictor's pure functions, said once each: the counter (41_branch_predictor.md R92, R94,
R95, R97), the index (R91) and the history (R98).
-/

namespace Sys2Proof.Machine

/-! The counter. -/

theorem satInc_toNat (c : Counter) : (satInc c).toNat = min (c.toNat + 1) 3 := by
  rw [satInc, BitVec.toNat_ofNat]
  omega

theorem satDec_toNat (c : Counter) : (satDec c).toNat = c.toNat - 1 := by
  rw [satDec, BitVec.toNat_ofNat]
  omega

theorem counterDirection_eq (c : Counter) :
    counterDirection c = if 2 ≤ c.toNat then .taken else .notTaken := rfl

theorem counterDirection_eq_taken_iff {c : Counter} : counterDirection c = .taken ↔ 2 ≤ c.toNat := by
  by_cases h : 2 ≤ c.toNat <;> simp [counterDirection_eq, h]

/-- Bit 1 is the top bit of a 2-bit counter, so it is 1 in the upper half of its values. -/
theorem getLsbD_one_eq_true_iff {c : Counter} : c.getLsbD 1 = true ↔ 2 ≤ c.toNat := by
  have htop : c.getLsbD 1 = decide (2 ≤ c.toNat) := BitVec.msb_eq_decide c
  rw [htop, decide_eq_true_iff]

theorem trainCounter_eq (actual : Direction) (c : Counter) :
    trainCounter actual c = if actual = .taken then satInc c else satDec c := by
  cases actual <;> rfl

/-! The index. -/

/-- The mask 0xFFF keeps the low twelve bits of the XOR. -/
theorem phtIndex_eq (addr : Addr) (ghr : History) :
    phtIndex addr ghr = (addr.setWidth 12 ^^^ ghr).toNat := by
  have hmask (x : Addr) : (x &&& 0xFFF#64).toNat = (x.setWidth 12).toNat := by
    rw [BitVec.toNat_and, BitVec.toNat_setWidth]
    exact Nat.and_two_pow_sub_one_eq_mod x.toNat 12
  have hlow : (ghr.setWidth 64).setWidth 12 = ghr := by
    rw [BitVec.setWidth_setWidth_of_le _ (by decide), BitVec.setWidth_eq]
  rw [phtIndex, hmask, BitVec.setWidth_xor, hlow]

theorem phtIndex_eq_xor (addr : Addr) (ghr : History) :
    phtIndex addr ghr = (addr.setWidth 12).toNat ^^^ ghr.toNat := by
  rw [phtIndex_eq, BitVec.toNat_xor]

/-- At one address, different histories have different counters. -/
theorem phtIndex_inj {addr : Addr} {g h : History} : phtIndex addr g = phtIndex addr h ↔ g = h := by
  rw [phtIndex_eq_xor, phtIndex_eq_xor, Nat.xor_right_inj, BitVec.toNat_inj]

/-! The history. -/

/-- The old low eleven bits move up by one, and the outcome follows them. -/
theorem shiftHistory_eq (ghr : History) (actual : Direction) :
    shiftHistory ghr actual = ghr.extractLsb' 0 11 ++ actual.bit := by
  refine BitVec.eq_of_getLsbD_eq fun b hb => ?_
  rw [BitVec.getLsbD_append]
  cases b with
  | zero => cases actual <;> simp [shiftHistory, Direction.bit]
  | succ b =>
    have hlow : b < 11 := by omega
    cases actual <;> simp [shiftHistory, Direction.bit, hb, hlow, Nat.lt_of_succ_lt hb]

/-- The shift read as arithmetic: the outcome is appended as a binary digit, modulo the table. -/
theorem shiftHistory_toNat (ghr : History) (actual : Direction) :
    (shiftHistory ghr actual).toNat = (2 * ghr.toNat + actual.bit.toNat) % 4096 := by
  have hbit : actual.bit.toNat < 2 ^ 1 := actual.bit.isLt
  rw [shiftHistory_eq, BitVec.toNat_append, ← Nat.shiftLeft_add_eq_or_of_lt hbit,
    BitVec.extractLsb'_toNat, Nat.shiftRight_zero, Nat.shiftLeft_eq]
  omega

end Sys2Proof.Machine
end

section
/-!
SUPPORT. The predictor under GSHARE (41_branch_predictor.md R91 to R104): one `update`, any series of them
from reset, and the taken branches of one address.
-/

namespace Sys2Proof.Machine

variable {s : State}

/-- Settles O28. -/
theorem indexIsLowAddressXorHistory : Obligations.IndexIsLowAddressXorHistory :=
  fun addr ghr => ⟨phtIndex_eq addr ghr, phtIndex_lt addr ghr⟩

/-- Settles O30. -/
theorem countersSaturate : Obligations.CountersSaturate :=
  fun c => ⟨satInc_toNat c, satDec_toNat c⟩

/-! One request. -/

theorem predict_of_gshare (h : s.cfg.policy = .gshare) (addr : Addr) (actual : Direction) :
    s.predict addr actual = counterDirection (s.pht.read (phtIndex addr s.ghr)) := by
  rw [State.predict, h]

theorem update_of_gshare (h : s.cfg.policy = .gshare) (addr : Addr) (p actual : Direction) :
    s.update addr p actual = (s.countBranch p actual).trainGshare addr actual := by
  rw [State.update, h]

@[simp] theorem update_cfg (s : State) (addr : Addr) (p actual : Direction) :
    (s.update addr p actual).cfg = s.cfg := by
  rw [State.update_eq]

theorem update_ghr_of_gshare (h : s.cfg.policy = .gshare) (addr : Addr) (p actual : Direction) :
    (s.update addr p actual).ghr = shiftHistory s.ghr actual := by
  rw [update_of_gshare h, State.trainGshare_ghr, State.countBranch_ghr]

/-- Every counter of a canonical table after `update`: the one at the index formed with the old history
is trained, all others stay (41_branch_predictor.md R97). -/
theorem update_pht_read_of_gshare (h : s.cfg.policy = .gshare) (hwf : s.pht.wf = true) (addr : Addr)
    (p actual : Direction) (j : Nat) :
    (s.update addr p actual).pht.read j =
      if j = phtIndex addr s.ghr then trainCounter actual (s.pht.read (phtIndex addr s.ghr))
      else s.pht.read j := by
  rw [update_of_gshare h, State.trainGshare_pht, State.countBranch_pht, State.countBranch_ghr]
  exact Pht.read_write j hwf

/-- Settles O29: both forms of the threshold on the counter the index names. -/
theorem predictionIsBitOneOfTheCounter : Obligations.PredictionIsBitOneOfTheCounter := by
  intro s addr actual hp c
  have hpredict : s.predict addr actual = counterDirection c := predict_of_gshare hp addr actual
  refine ⟨hpredict.trans (counterDirection_eq c), ?_⟩
  rw [hpredict, counterDirection_eq_taken_iff, getLsbD_one_eq_true_iff]

/-- Settles O31: the table is written at the old index, and the history shifts. -/
theorem updateTrainsOneCounterThenShifts : Obligations.UpdateTrainsOneCounterThenShifts := by
  intro s addr p actual hp hwf t i
  have hread (j : Nat) : t.pht.read j = if j = i then trainCounter actual (s.pht.read i) else
      s.pht.read j := update_pht_read_of_gshare hp hwf addr p actual j
  refine ⟨?_, fun j hj => ?_, ?_⟩
  · rw [hread, if_pos rfl, trainCounter_eq]
  · rw [hread, if_neg hj]
  · exact (update_ghr_of_gshare hp addr p actual).trans (shiftHistory_eq s.ghr actual)

/-! A series of calls (41_branch_predictor.md R103), by its last call. -/

theorem updateAll_concat (s : State) (calls : List (Addr × Direction × Direction))
    (c : Addr × Direction × Direction) :
    s.updateAll (calls ++ [c]) = (s.updateAll calls).update c.1 c.2.1 c.2.2 := by
  simp only [State.updateAll, List.foldl_append, List.foldl_cons, List.foldl_nil]

theorem outcomesNumber_concat (calls : List (Addr × Direction × Direction))
    (c : Addr × Direction × Direction) :
    outcomesNumber (calls ++ [c]) = 2 * outcomesNumber calls + c.2.2.bit.toNat := by
  simp only [outcomesNumber, List.foldl_append, List.foldl_cons, List.foldl_nil]

@[simp] theorem updateAll_cfg (s : State) (calls : List (Addr × Direction × Direction)) :
    (s.updateAll calls).cfg = s.cfg := by
  induction calls using List.reverseRecOn with
  | nil => rfl
  | append_singleton calls c ih => rw [updateAll_concat, update_cfg, ih]

/-- From an empty history, GHR is the outcomes as a binary number modulo the table. -/
theorem updateAll_ghr_toNat (h : s.cfg.policy = .gshare) (hzero : s.ghr = 0#12)
    (calls : List (Addr × Direction × Direction)) :
    (s.updateAll calls).ghr.toNat = outcomesNumber calls % 4096 := by
  induction calls using List.reverseRecOn with
  | nil => exact congrArg BitVec.toNat hzero
  | append_singleton calls c ih =>
    have hp : (s.updateAll calls).cfg.policy = .gshare := by rw [updateAll_cfg, h]
    rw [updateAll_concat, update_ghr_of_gshare hp, shiftHistory_toNat, ih, outcomesNumber_concat]
    omega

/-- `k` taken outcomes are `k` ones. -/
theorem outcomesNumber_replicate_taken (addr : Addr) (p : Direction) (k : Nat) :
    outcomesNumber (List.replicate k (addr, p, .taken)) = 2 ^ k - 1 := by
  induction k with
  | zero => rfl
  | succ k ih =>
    have hone : Direction.taken.bit.toNat = 1 := rfl
    rw [List.replicate_succ', outcomesNumber_concat, ih, hone]
    have hpos : 0 < 2 ^ k := Nat.two_pow_pos k
    omega

/-- Settles O32: the history by its last outcome, and the index as an XOR with it. -/
theorem historyIsTheOutcomesModuloTable : Obligations.HistoryIsTheOutcomesModuloTable := by
  intro cfg responses hp
  have hghr (calls : List (Addr × Direction × Direction)) :
      ((State.resetWith cfg responses).updateAll calls).ghr.toNat = outcomesNumber calls % 4096 :=
    updateAll_ghr_toNat hp rfl calls
  refine ⟨hghr, fun addr p k => ?_⟩
  rw [phtIndex_eq_xor, hghr, outcomesNumber_replicate_taken]

/-! Taken branches at one address (41_branch_predictor.md R104). -/

/-- The predictor after correctly predicted taken branches at `addr` that met the histories `past`, each
once, and left the history `ghr`: the counters they used are at 3, all others of this address at 2. -/
structure TakenRun (addr : Addr) (past : List History) (ghr : History) (s : State) : Prop where
  policy : s.cfg.policy = .gshare
  canonical : s.pht.wf = true
  history : s.ghr = ghr
  counters : ∀ g, s.pht.read (phtIndex addr g) = if g ∈ past then 3#2 else 2#2
  branches : s.statBranches = past.length
  mispredicted : s.statMispred = 0

theorem takenRun_resetWith {cfg : Config} (responses : List ResponseWord) (addr : Addr)
    (h : cfg.policy = .gshare) : TakenRun addr [] 0#12 (State.resetWith cfg responses) :=
  ⟨h, rfl, rfl, fun _ => rfl, rfl, rfl⟩

/-- The index of the next branch at the address (41_branch_predictor.md R91). -/
theorem TakenRun.index {addr : Addr} {past : List History} {ghr : History} {n : Nat}
    (h : TakenRun addr past ghr s) (hn : ghr.toNat = n) :
    phtIndex addr s.ghr = (addr.setWidth 12).toNat ^^^ n := by
  rw [h.history, phtIndex_eq_xor, hn]

/-- A taken branch that meets a new history meets a counter at 2, which predicts TAKEN and goes to 3. -/
theorem TakenRun.request {addr : Addr} {past : List History} {ghr : History}
    (h : TakenRun addr past ghr s) (hnew : ghr ∉ past) :
    (s.predictorRequest addr .taken).1 = .taken ∧
      TakenRun addr (ghr :: past) (shiftHistory ghr .taken) (s.predictorRequest addr .taken).2 := by
  have hcounter : s.pht.read (phtIndex addr s.ghr) = 2#2 := by
    rw [h.counters, h.history, if_neg hnew]
  have hpredict : s.predict addr .taken = .taken := by
    rw [predict_of_gshare h.policy, hcounter]
    rfl
  have hstate : (s.predictorRequest addr .taken).2 = s.update addr .taken .taken := by
    rw [State.predictorRequest, hpredict]
  refine ⟨hpredict, ?_⟩
  rw [hstate]
  constructor
  case policy => rw [update_cfg, h.policy]
  case canonical => exact State.update_wf _ _ _ h.canonical
  case history => rw [update_ghr_of_gshare h.policy, h.history]
  case counters =>
    intro g
    rw [update_pht_read_of_gshare h.policy h.canonical, hcounter, h.counters, h.history]
    simp only [phtIndex_inj, List.mem_cons]
    by_cases hg : g = ghr
    · rw [if_pos hg, if_pos (.inl hg)]
      rfl
    · simp only [hg, if_false, false_or]
  case branches => rw [State.update_eq, List.length_cons, ← h.branches]
  case mispredicted => rw [State.update_eq, ← h.mispredicted, if_pos rfl]

/-- Settles O33: the five histories 0, 1, 3, 7 and 15 differ, so each branch meets a new counter. -/
theorem fiveTakenBranchesFromReset : Obligations.FiveTakenBranchesFromReset := by
  intro cfg responses addr hp s0 r1 r2 r3 r4 r5 a
  have h0 : TakenRun addr [] 0#12 s0 := takenRun_resetWith responses addr hp
  obtain ⟨p1, h1 : TakenRun addr _ 1#12 r1.2⟩ := h0.request (by decide)
  obtain ⟨p2, h2 : TakenRun addr _ 3#12 r2.2⟩ := h1.request (by decide)
  obtain ⟨p3, h3 : TakenRun addr _ 7#12 r3.2⟩ := h2.request (by decide)
  obtain ⟨p4, h4 : TakenRun addr _ 15#12 r4.2⟩ := h3.request (by decide)
  obtain ⟨p5, h5 : TakenRun addr _ 31#12 r5.2⟩ := h4.request (by decide)
  have hcounter {g : History} {n : Nat} (hn : g.toNat = n)
      (hg : g ∈ [15#12, 7#12, 3#12, 1#12, 0#12]) :
      s0.pht.read (a ^^^ n) = 2#2 ∧ r5.2.pht.read (a ^^^ n) = 3#2 := by
    rw [← hn, ← phtIndex_eq_xor, h0.counters, h5.counters, if_pos hg]
    exact ⟨rfl, rfl⟩
  have hfirst : s0.pht.read a = 2#2 ∧ r5.2.pht.read a = 3#2 :=
    Nat.xor_zero a ▸ hcounter (g := 0#12) rfl (by decide)
  refine ⟨?_, (h0.index rfl).trans (Nat.xor_zero a), h1.index rfl, h2.index rfl, h3.index rfl,
    h4.index rfl, ?_, h5.history, h5.branches, h5.mispredicted⟩
  · simp only [List.forall_mem_cons]
    exact ⟨p1, p2, p3, p4, p5, List.forall_mem_nil _⟩
  · simp only [List.forall_mem_cons]
    exact ⟨hfirst, hcounter (g := 1#12) rfl (by decide), hcounter (g := 3#12) rfl (by decide),
      hcounter (g := 7#12) rfl (by decide), hcounter (g := 15#12) rfl (by decide),
      List.forall_mem_nil _⟩

end Sys2Proof.Machine
end

section
/-!
SUPPORT. The predictor under PERFECT (41_branch_predictor.md R93, R99): `update` only counts, and the
engine never calls it.
-/

namespace Sys2Proof.Machine

variable {s : State}

theorem update_of_perfect (h : s.cfg.policy = .perfect) (addr : Addr) (p actual : Direction) :
    s.update addr p actual =
      { s with
        statBranches := s.statBranches + 1
        statMispred := s.statMispred + (if p = actual then 0 else 1) } := by
  rw [State.update, h]
  by_cases hpa : p = actual <;> simp only [State.countBranch, hpa, if_true, if_false, Nat.add_zero]

/-- The oracle answers the outcome it is given, so its request is never counted as a misprediction
(log 12). -/
theorem predictorRequest_statMispred_of_perfect (h : s.cfg.policy = .perfect) (addr : Addr)
    (actual : Direction) : (s.predictorRequest addr actual).2.statMispred = s.statMispred := by
  have horacle : s.predict addr actual = actual := by rw [State.predict, h]
  rw [State.predictorRequest, horacle, update_of_perfect h, if_pos rfl]
  rfl

/-- Under PERFECT every record, a CBR too, is placed as it is (40_record_kinds.md R84). -/
theorem exec_of_perfect (h : s.cfg.policy = .perfect) (i : Instr) :
    exec i s = .next (s.placeRecord i false) := by
  rcases exec_cases i s with hexec | ⟨f, -, hg, -⟩
  · exact hexec
  · rw [h] at hg
    cases hg

/-- The predictor's four elements and the configuration it reads are the same. -/
structure SamePredictor (s t : State) : Prop where
  cfg : t.cfg = s.cfg
  pht : t.pht = s.pht
  ghr : t.ghr = s.ghr
  statBranches : t.statBranches = s.statBranches
  statMispred : t.statMispred = s.statMispred

theorem SamePredictor.refl (s : State) : SamePredictor s s := ⟨rfl, rfl, rfl, rfl, rfl⟩

theorem SamePredictor.trans {s t u : State} (h : SamePredictor s t) (k : SamePredictor t u) :
    SamePredictor s u :=
  ⟨k.cfg.trans h.cfg, k.pht.trans h.pht, k.ghr.trans h.ghr, k.statBranches.trans h.statBranches,
    k.statMispred.trans h.statMispred⟩

/-- Under PERFECT one lane of Fetch leaves the predictor alone: a pulled record is only placed. -/
theorem fetchLane_samePredictor {old : List Slot} {s t : State} (hlane : s.fetchLane old = .next t)
    (h : s.cfg.policy = .perfect) : SamePredictor s t := by
  rcases s.fetchLane_cases old with
    ⟨-, he⟩ | ⟨-, -, he⟩ | ⟨-, -, -, ⟨i, -, he⟩ | ⟨-, he⟩ | ⟨-, he⟩⟩
  case inr.inr.inl =>
    cases (he.trans (exec_of_perfect (s := s.advance) h i)).symm.trans hlane
    exact ⟨rfl, rfl, rfl, rfl, rfl⟩
  all_goals
    cases he.symm.trans hlane
    exact ⟨rfl, rfl, rfl, rfl, rfl⟩

/-- Under PERFECT a tick leaves the predictor alone (41_branch_predictor.md R99). -/
theorem tick_samePredictor {s t : State} (htick : s.tick = .next t) (h : s.cfg.policy = .perfect) :
    SamePredictor s t := by
  have hstart : SamePredictor s s.fetchStart := by constructor <;> simp
  have hlanes : s.fetchStart.cfg.policy = .perfect → SamePredictor s.fetchStart t :=
    fetchLanes_induction (R := fun u v => u.cfg.policy = .perfect → SamePredictor u v)
      (fun u _ => .refl u)
      (fun huv hvw hu => (huv hu).trans (hvw (by rw [(huv hu).cfg, hu]))) fetchLane_samePredictor
      (s.tick_eq.symm.trans htick)
  exact hstart.trans (hlanes (by rw [hstart.cfg, h]))

/-- What holds of a state and is kept by every step holds after any number of steps. -/
theorem run_induction {P : State → Prop} (hstep : ∀ {s}, P s → ∃ t, step s = .next t ∧ P t) :
    ∀ (k : Nat) {s : State}, P s → ∃ t, Sys2Proof.core.run k s = .next t ∧ P t
  | 0, s, h => ⟨s, rfl, h⟩
  | k + 1, s, h => by
    obtain ⟨u, hu, hpu⟩ := hstep h
    obtain ⟨t, ht, hpt⟩ := run_induction hstep k hpu
    exact ⟨t, (run_succ_of_step k hu).trans ht, hpt⟩

/-- A step keeps the pipeline invariant together with the configuration. -/
theorem step_pipelineInv_cfg {cfg : Config} (h : PipelineInv s ∧ s.cfg = cfg) :
    ∃ t, step s = .next t ∧ PipelineInv t ∧ t.cfg = cfg := by
  obtain ⟨hinv, hcfg⟩ := h
  obtain ⟨t, hstep, hnext⟩ := stepKeepsThePipelineInvariant s hinv
  have ⟨⟨hn, _⟩, _⟩ := hinv
  obtain ⟨u, hu, hsame, -⟩ := inputsAndTraceAreNeverWritten s hn
  cases hu.symm.trans hstep
  exact ⟨t, hstep, hnext, hsame.trans hcfg⟩

/-- Settles O34: `update` and a request by their equations, a tick lane by lane, and a run by the counts
of the pipeline invariant. -/
theorem perfectLeavesThePredictorAlone : Obligations.PerfectLeavesThePredictorAlone := by
  refine ⟨fun s hp => ⟨fun addr p actual => ⟨update_of_perfect hp addr p actual,
    predictorRequest_statMispred_of_perfect hp addr actual⟩, fun hs => ?_⟩, ?_⟩
  · obtain ⟨t, hstep, htick, -⟩ := step_of_ticking hs
    have hsame := tick_samePredictor htick hp
    exact ⟨t, hstep, hsame.statBranches, hsame.statMispred, hsame.pht, hsame.ghr⟩
  · intro cfg responses k hn hp
    obtain ⟨t, ht, hinv, hcfg⟩ := run_induction (step_pipelineInv_cfg (cfg := cfg)) k
      ⟨pipelineInv_resetWith responses hn, rfl⟩
    obtain ⟨-, hcore⟩ := pipelineInv_iff.mp hinv
    obtain ⟨-, -, -, hle, -, hperfect⟩ := hcore.counts
    obtain ⟨hbranches, -⟩ := hperfect (by rw [hcfg, hp])
    exact ⟨t, ht, hbranches, by omega⟩

end Sys2Proof.Machine
end

section
/-!
SUPPORT. The register-transfer form of the tick (42_pipeline_tick.md R118): the state elements that
Fetch threads through its lanes as one value, a lane of Fetch as a lane of `FetchChain`, and from it
the whole tick.
-/

namespace Sys2Proof.Machine

/-- The state elements that `FetchChain` threads from lane to lane, as the state holds them. -/
def State.chain (s : State) : ChainState :=
  { opidCtr := s.opidCtr
    fetchStall := s.fetchStall
    eosSeen := s.eosSeen
    haltId := s.haltId
    haltIdValid := s.haltIdValid
    fatalError := s.fatalError
    pht := s.pht
    ghr := s.ghr
    statBranches := s.statBranches
    statMispred := s.statMispred
    tsPos := s.tsPos }

/-- The state with these slots in the next lanes of the Fetch latch and the chain at these
values. -/
def State.withLanes (s : State) (lanes : List Slot × ChainState) : State :=
  { s with
    latchFe := s.latchFe ++ lanes.1
    opidCtr := lanes.2.opidCtr
    fetchStall := lanes.2.fetchStall
    eosSeen := lanes.2.eosSeen
    haltId := lanes.2.haltId
    haltIdValid := lanes.2.haltIdValid
    fatalError := lanes.2.fatalError
    pht := lanes.2.pht
    ghr := lanes.2.ghr
    statBranches := lanes.2.statBranches
    statMispred := lanes.2.statMispred
    tsPos := lanes.2.tsPos }

/-- The state with this slot in the next lane of the Fetch latch and the chain at these values. -/
abbrev State.withLane (s : State) (lane : Slot × ChainState) : State :=
  s.withLanes ([lane.1], lane.2)

theorem withLanes_nil (s : State) : s.withLanes ([], s.chain) = s := by
  simp only [State.withLanes, List.append_nil]
  rfl

theorem withLanes_withLanes (s : State) (xs ys : List Slot) (c d : ChainState) :
    (s.withLanes (xs, c)).withLanes (ys, d) = s.withLanes (xs ++ ys, d) := by
  simp only [State.withLanes, List.append_assoc]

/-! The lanes of Fetch. -/

/-- Running a pulled record is the chain's step of a record (44_fetch_branch_resolution.md R165,
R166). -/
theorem exec_eq_chainRecord (i : Instr) (s : State) :
    exec i s.advance = .next (s.withLane (chainRecord s.cfg.policy i s.chain)) := by
  cases i with
  | alu f | load f | store f | other f => rfl
  | cbr f =>
    cases hp : s.cfg.policy with
    | perfect => exact exec_of_perfect (s := s.advance) hp (.cbr f)
    | gshare =>
      have hadv : s.advance.cfg.policy = .gshare := hp
      simp only [exec, execCbr, hadv, State.resolveBranch, State.update_eq,
        predict_of_gshare hadv]
      by_cases hd : counterDirection (s.pht.read (phtIndex f.addr s.ghr)) = f.brDir <;>
        simp [hd, chainRecord, isCbr, Instr.fields, State.chain, State.withLanes,
          State.placeRecord, State.fillLane, State.advance]

/-- One lane of Fetch is one lane of `FetchChain` (42_pipeline_tick.md R117, last row). -/
theorem fetchLane_eq_chainLane (old : List Slot) (s : State) :
    s.fetchLane old = .next (s.withLane
      (chainLane s.cfg.policy s.trace (slotAt old s.lane) s.laneStalled s.chain)) := by
  cases hs : s.laneStalled with
  | true => exact fetchLane_of_stalled old hs
  | false =>
    by_cases hb : s.fetchStall = true ∨ s.eosSeen = true
    · have hchain : (s.chain.fetchStall || s.chain.eosSeen) = true := Bool.or_eq_true_iff.mpr hb
      rw [fetchLane_of_blocked old hs hb, chainLane, if_neg Bool.false_ne_true, if_pos hchain]
      rfl
    · obtain ⟨hf, he⟩ := not_or.mp hb
      rw [Bool.not_eq_true] at hf he
      have hchain : ¬(s.chain.fetchStall || s.chain.eosSeen) = true := by
        simpa [State.chain] using ⟨hf, he⟩
      have hresp : responseAt s.trace s.chain.tsPos = s.nextResponse := rfl
      rw [fetchLane_of_free old hs hf he, chainLane, if_neg Bool.false_ne_true, if_neg hchain,
        hresp]
      cases hr : s.nextResponse with
      | record i => exact (fetchAttempt_of_record hr).trans (exec_eq_chainRecord i s)
      | endOfStream => exact fetchAttempt_of_endOfStream hr
      | malformed => exact fetchAttempt_of_malformed hr

/-- The slot at a lane is the first of those from that lane on. -/
theorem slotAt_of_drop_eq_cons {latch xs : List Slot} {l : Nat} {x : Slot}
    (h : latch.drop l = x :: xs) : slotAt latch l = x := by
  rw [slotAt, List.getD_eq_getElem?_getD, ← List.head?_drop, h]
  rfl

theorem drop_succ_of_drop_eq_cons {latch xs : List Slot} {l : Nat} {x : Slot}
    (h : latch.drop l = x :: xs) : latch.drop (l + 1) = xs := by
  rw [← List.tail_drop, h]
  rfl

/-- Fetch of the lanes not yet written is `FetchChain` over their slots in the Fetch latch the tick
found, `xs`, and the stall flags of their Decode slots `ds`. -/
theorem fetchLanes_eq_fetchChain {old : List Slot} : ∀ {xs ds : List Slot} {s : State},
    old.drop s.lane = xs → s.latchId.drop s.lane = ds → xs.length = ds.length →
    fetchLanes old xs.length s =
      .next (s.withLanes
        (fetchChain s.cfg.policy s.trace xs (ds.map fun d => d.stall) s.chain))
  | [], _, s, _, _, _ => congrArg _ (withLanes_nil s).symm
  | x :: xs, [], s, _, _, hlen => nomatch hlen
  | x :: xs, d :: ds, s, hx, hd, hlen => by
    have hstall : s.laneStalled = d.stall := congrArg Slot.stall (slotAt_of_drop_eq_cons hd)
    have hlane : ∀ p, (s.withLane p).lane = s.lane + 1 := fun p => List.length_append
    rw [List.length_cons, fetchLanes, fetchLane_eq_chainLane, slotAt_of_drop_eq_cons hx, hstall]
    refine (fetchLanes_eq_fetchChain (xs := xs) (ds := ds) ?_ ?_ (Nat.succ.inj hlen)).trans ?_
    · rw [hlane]
      exact drop_succ_of_drop_eq_cons hx
    · rw [hlane]
      exact drop_succ_of_drop_eq_cons hd
    · rw [withLanes_withLanes]
      rfl

theorem fetchStart_chain (s : State) : s.fetchStart.chain = s.chainStart := by
  rw [State.fetchStart, s.beforeFetch_eq]
  rfl

/-- The stall flags of the Decode latch a tick leaves are the HazardResolver's
(43_hazard_detector.md R141). -/
theorem newId_map_stall (s : State) :
    (s.newId.map fun d => d.stall) =
      stallVector s.cfg (decodeCopy s.latchFe) (s.latchId.map executeSlot) s.latchEx := by
  simp [State.newId, decodeLatch, stallVector]

theorem newId_length (s : State) : s.newId.length = s.latchFe.length := by
  rw [State.newId, decodeLatch_length, decodeCopy_length]

/-- The new Fetch latch and the new values of the chain (42_pipeline_tick.md R118). -/
def State.newLanes (s : State) : List Slot × ChainState :=
  fetchChain s.cfg.policy s.trace s.latchFe (s.newId.map fun d => d.stall) s.chainStart

/-! The state after a tick in the register-transfer form, and its fields. -/

/-- The register-transfer form is `FetchChain` on the values the stages before Fetch leave. -/
theorem State.rtlTick_eq_withLanes (s : State) : s.rtlTick = s.fetchStart.withLanes s.newLanes := by
  rw [State.newLanes, newId_map_stall, State.fetchStart, s.beforeFetch_eq]
  rfl

theorem State.rtlTick_latchFe (s : State) : s.rtlTick.latchFe = s.newLanes.1 := by
  rw [s.rtlTick_eq_withLanes]
  rfl

theorem State.rtlTick_chain (s : State) : s.rtlTick.chain = s.newLanes.2 := by
  rw [s.rtlTick_eq_withLanes]
  rfl

theorem State.rtlTick_cfg (s : State) : s.rtlTick.cfg = s.cfg := rfl
theorem State.rtlTick_trace (s : State) : s.rtlTick.trace = s.trace := rfl
theorem State.rtlTick_latchId (s : State) : s.rtlTick.latchId = s.newId := rfl
theorem State.rtlTick_latchEx (s : State) : s.rtlTick.latchEx = s.latchId.map executeSlot := rfl
theorem State.rtlTick_latchMa (s : State) : s.rtlTick.latchMa = s.latchEx := rfl
theorem State.rtlTick_halt (s : State) :
    s.rtlTick.halt = (s.halt || (s.haltIdValid && opIdRetires s.latchMa s.haltId)) := rfl
theorem State.rtlTick_statCycles (s : State) : s.rtlTick.statCycles = s.statCycles + 1 := rfl
theorem State.rtlTick_statRetired (s : State) :
    s.rtlTick.statRetired = s.statRetired + (validSlots s.latchMa).length :=
  congrArg (s.statRetired + ·) (length_validSlots s.latchMa).symm

/-- The sequential tick is the register-transfer form. -/
theorem tick_eq_rtlTick {s : State} (hfe : s.latchFe.length = s.cfg.n) :
    s.tick = .next s.rtlTick := by
  have hchain := fetchLanes_eq_fetchChain (old := s.latchFe) (s := s.fetchStart) rfl rfl
    (by simp [newId_length])
  simpa [s.tick_eq, s.rtlTick_eq_withLanes, State.newLanes, fetchStart_chain, hfe] using hchain

/-- Settles O48: lane by lane, Fetch is `FetchChain` on the values the other stages leave. -/
theorem tickIsTheRegisterTransferForm : Obligations.TickIsTheRegisterTransferForm := by
  rintro s ⟨hn, hr, hh⟩ hfe
  exact (step_of_tick hn hr hh).trans (tick_eq_rtlTick hfe)

end Sys2Proof.Machine
end

section
/-!
SUPPORT. The statements about one tick, stage by stage (42_pipeline_tick.md R111 to R119): which
edges answer, the cycle counter, Write-Back, and what each latch takes.
-/

namespace Sys2Proof.Machine

variable {s t : State}

/-! Every edge, and the cycle counter. -/

/-- Settles O11. -/
theorem haltedBlockHolds : Obligations.HaltedBlockHolds := fun s hn =>
  ⟨fun hr hh => step_of_halted hn hr hh, fun hr => ⟨s.resetEdge, step_of_reset hn hr, rfl⟩⟩

/-- Settles O13. -/
theorem everyEdgeOfAnInstanceAnswers : Obligations.EveryEdgeOfAnInstanceAnswers := by
  refine fun s => ⟨fun hn => ?_, fun hn => if_pos hn⟩
  obtain ⟨t, hstep, -⟩ := exists_step hn
  exact ⟨t, hstep⟩

/-- A tick counts one cycle: only the start of the tick writes the counter. -/
theorem statCycles_of_fetchFrame (hframe : FetchFrame s.beforeFetch t) :
    t.statCycles = s.statCycles + 1 := hframe.statCycles.trans s.beforeFetch_statCycles

theorem resetWith_ticking {cfg : Config} (responses : List ResponseWord) (hn : 0 < cfg.n) :
    Ticking (State.resetWith cfg responses) := ⟨hn, rfl, rfl⟩

/-- What holds of a state at time 0 and is carried by every step to the next time holds at time `k`
of the state after `k` steps. -/
theorem run_induction_timed {P : Nat → State → Prop}
    (hstep : ∀ {k s}, P k s → ∃ t, step s = .next t ∧ P (k + 1) t) (k : Nat) (h : P 0 s) :
    ∃ t, Sys2Proof.core.run k s = .next t ∧ P k t := by
  induction k generalizing P s with
  | zero => exact ⟨s, rfl, h⟩
  | succ k ih =>
    obtain ⟨u, hu, hpu⟩ := hstep h
    obtain ⟨t, ht, hpt⟩ := ih (P := fun j => P (j + 1)) hstep hpu
    exact ⟨t, (run_succ_of_step k hu).trans ht, hpt⟩

/-- An instance out of reset that has halted, or whose cycle counter is the number of the tick. -/
abbrev HaltedOrAtTick (k : Nat) (s : State) : Prop :=
  0 < s.cfg.n ∧ s.rst = false ∧ (s.halt = false → s.statCycles = k)

theorem haltedOrAtTick_step {k : Nat} (h : HaltedOrAtTick k s) :
    ∃ t, step s = .next t ∧ HaltedOrAtTick (k + 1) t := by
  obtain ⟨hn, hr, hcount⟩ := h
  cases hh : s.halt with
  | true => exact ⟨s, step_of_halted hn hr hh, hn, hr, fun hf => by simp [hh] at hf⟩
  | false =>
    obtain ⟨t, hstep, -, hframe, -⟩ := step_of_ticking ⟨hn, hr, hh⟩
    refine ⟨t, hstep, by rwa [hframe.cfg, s.beforeFetch_cfg], by
      rwa [hframe.rst, s.beforeFetch_rst], fun _ => ?_⟩
    rw [statCycles_of_fetchFrame hframe, hcount hh]

/-- Settles O12: an edge is a tick, which counts, or a hold or a reset, which do not; over a run the
count is the number of steps as long as the block has not halted. -/
theorem everyTickCountsOneCycle : Obligations.EveryTickCountsOneCycle := by
  have hticks : ∀ s : State, Ticking s → ∃ t, step s = .next t ∧ t.statCycles = s.statCycles + 1 :=
    fun s hs => by
      obtain ⟨t, hstep, -, hframe, -⟩ := step_of_ticking hs
      exact ⟨t, hstep, statCycles_of_fetchFrame hframe⟩
  refine ⟨hticks, fun s hn hr hh => ⟨s, step_of_halted hn hr hh, rfl⟩,
    fun s hn hr => ⟨s.resetEdge, step_of_reset hn hr, rfl⟩, fun cfg responses k s hn hrun hh => ?_⟩
  obtain ⟨u, hu, hinst, hr, hcount⟩ := run_induction_timed (P := HaltedOrAtTick)
    haltedOrAtTick_step k (s := State.resetWith cfg responses) ⟨hn, rfl, fun _ => rfl⟩
  cases hu.symm.trans hrun
  obtain ⟨t, hstep, hnext⟩ := hticks s ⟨hinst, hr, hh⟩
  exact ⟨t, hstep, by rw [hnext, hcount hh]⟩

/-! Write-Back, and the latches behind Fetch. -/

theorem opIdRetires_iff {latch : List Slot} {n : Nat} :
    opIdRetires latch n = true ↔ ∃ x ∈ latch, x.valid = true ∧ x.opId = n := by
  simp only [opIdRetires, List.any_eq_true, Bool.and_eq_true, decide_eq_true_eq]

/-- Settles O44: Write-Back alone writes the two, and Fetch leaves them. -/
theorem writeBackCountsAndHalts : Obligations.WriteBackCountsAndHalts := by
  intro s hs
  obtain ⟨t, hstep, -, hframe, -⟩ := step_of_ticking hs
  obtain ⟨-, -, hh⟩ := hs
  refine ⟨t, hstep, hframe.statRetired.trans s.beforeFetch_statRetired, ?_⟩
  rw [hframe.halt, s.beforeFetch_halt, hh, Bool.false_or, Bool.and_eq_true, opIdRetires_iff]

/-- Settles O45: each of the three stages writes its latch once, and Fetch leaves them. -/
theorem stagesPassSlotsOn : Obligations.StagesPassSlotsOn := by
  intro s hs
  obtain ⟨t, hstep, -, hframe, -⟩ := step_of_ticking hs
  refine ⟨t, hstep, hframe.latchMa.trans s.beforeFetch_latchMa, ?_, ?_⟩
  · rw [hframe.latchEx, s.beforeFetch_latchEx]
    exact List.map_congr_left fun d _ => executeSlot_eq d
  · rw [hframe.latchId, s.beforeFetch_latchId]
    exact clearStall_newId s

/-! The Fetch latch. -/

/-- What a lane of the Fetch latch takes, from its old slot and its Decode lane's stall flag, while
`opid_ctr` runs from `low` to `high` (42_pipeline_tick.md R117). -/
abbrev LaneTakes (low high : Nat) (old : Slot) (stalled : Bool) (new : Slot) : Prop :=
  (stalled = true → new = old) ∧
    (stalled = false → new = bubble ∨
      (new.valid = true ∧ new.stall = false ∧ low < new.opId ∧ new.opId ≤ high))

theorem LaneTakes.mono {low low' high high' : Nat} {old new : Slot} {stalled : Bool}
    (h : LaneTakes low high old stalled new) (hlow : low' ≤ low) (hhigh : high ≤ high') :
    LaneTakes low' high' old stalled new :=
  ⟨h.1, fun hs => (h.2 hs).imp_right fun ⟨hv, hst, hlt, hle⟩ =>
    ⟨hv, hst, hlow.trans_lt hlt, hle.trans hhigh⟩⟩

/-- A pulled record's slot is valid, not stalled, and has the next `op_id`
(44_fetch_branch_resolution.md R165). -/
theorem chainRecord_slot (policy : Policy) (i : Instr) (c : ChainState) :
    (chainRecord policy i c).2.opidCtr = c.opidCtr + 1 ∧
      (chainRecord policy i c).1.valid = true ∧ (chainRecord policy i c).1.stall = false ∧
      (chainRecord policy i c).1.opId = c.opidCtr + 1 := by
  unfold chainRecord
  split <;> exact ⟨rfl, rfl, rfl, rfl⟩

theorem chainLane_takes (policy : Policy) (responses : List ResponseWord) (x : Slot)
    (stalled : Bool) (c : ChainState) :
    let lane := chainLane policy responses x stalled c
    c.opidCtr ≤ lane.2.opidCtr ∧ LaneTakes c.opidCtr lane.2.opidCtr x stalled lane.1 := by
  unfold chainLane
  cases stalled with
  | true => exact ⟨le_refl _, fun _ => rfl, fun h => nomatch h⟩
  | false =>
    have hbubble : LaneTakes c.opidCtr c.opidCtr x false bubble :=
      ⟨fun h => (nomatch h), fun _ => .inl rfl⟩
    rw [if_neg Bool.false_ne_true]
    split
    · exact ⟨le_refl _, hbubble⟩
    · cases responseAt responses c.tsPos with
      | record i =>
        obtain ⟨hctr, hv, hst, hid⟩ := chainRecord_slot policy i c
        exact ⟨(Nat.le_succ _).trans_eq hctr.symm, fun h => (nomatch h), fun _ =>
          .inr ⟨hv, hst, (Nat.lt_succ_self _).trans_eq hid.symm, (hid.trans hctr.symm).le⟩⟩
      | endOfStream | malformed => exact ⟨le_refl _, hbubble⟩

/-- `FetchChain` never lowers `opid_ctr`, and gives each lane what it may take. -/
theorem fetchChain_takes (policy : Policy) (responses : List ResponseWord) :
    ∀ {xs : List Slot} {flags : List Bool} (c : ChainState), xs.length = flags.length →
      let chain := fetchChain policy responses xs flags c
      c.opidCtr ≤ chain.2.opidCtr ∧ chain.1.length = xs.length ∧
        ∀ (l : Nat) (x y : Slot) (stalled : Bool), xs[l]? = some x → flags[l]? = some stalled →
          chain.1[l]? = some y → LaneTakes c.opidCtr chain.2.opidCtr x stalled y
  | [], _, c, _ => ⟨le_refl _, rfl, fun _ _ _ _ hx => nomatch hx⟩
  | x :: xs, [], c, hlen => nomatch hlen
  | x :: xs, b :: flags, c, hlen => by
    obtain ⟨hle, hhead⟩ := chainLane_takes policy responses x b c
    obtain ⟨hle', hlen', hrest⟩ := fetchChain_takes policy responses
      (chainLane policy responses x b c).2 (Nat.succ.inj hlen)
    refine ⟨hle.trans hle', congrArg (· + 1) hlen', fun l x' y stalled hx hb hy => ?_⟩
    cases l with
    | zero =>
      cases hx
      cases hb
      cases hy
      exact hhead.mono (le_refl _) hle'
    | succ l => exact (hrest l x' y stalled hx hb hy).mono hle (le_refl _)

/-- Settles O46, from the register-transfer form. -/
theorem fetchLatchHoldsOrTakesNew : Obligations.FetchLatchHoldsOrTakesNew := by
  intro s hs hfe
  refine ⟨s.rtlTick, tickIsTheRegisterTransferForm s hs hfe, ?_⟩
  obtain ⟨-, hlen, hlanes⟩ := fetchChain_takes s.cfg.policy s.trace (xs := s.latchFe)
    (flags := s.newId.map fun d => d.stall) s.chainStart (by simp [newId_length])
  have hctr : s.rtlTick.opidCtr = s.newLanes.2.opidCtr :=
    congrArg ChainState.opidCtr s.rtlTick_chain
  have hid : s.rtlTick.latchId = s.newId := rfl
  rw [s.rtlTick_latchFe, hid, hctr]
  refine ⟨hlen, fun l x y hx hy => ?_⟩
  have hl : l < s.latchFe.length := hlen ▸ (List.getElem?_eq_some_iff.mp hy).1
  have hold : s.latchFe[l]? = some s.latchFe[l] := List.getElem?_eq_getElem hl
  obtain ⟨hkeeps, hnew⟩ := hlanes l _ y x.stall hold (by rw [List.getElem?_map, hx]; rfl) hy
  exact ⟨fun hs => by rw [hold, hkeeps hs], hnew⟩

end Sys2Proof.Machine
end

section
/-!
SUPPORT. The shortest run (42_pipeline_tick.md R120): one record on its way through an otherwise
empty pipeline, one latch a tick, and the end of the trace behind it.
-/

namespace Sys2Proof.Machine

variable {s : State}

/-! Empty latches. -/

theorem opIdRetires_eq_false {latch : List Slot} {n : Nat} (h : validSlots latch = []) :
    opIdRetires latch n = false := Bool.eq_false_iff.mpr fun hret => by
  obtain ⟨x, hx, hv, -⟩ := opIdRetires_iff.mp hret
  exact List.not_mem_nil (h ▸ mem_validSlots.mpr ⟨hx, hv⟩)

theorem laterHazard_eq_false {latch : List Slot} {c : Slot} (h : validSlots latch = []) :
    laterHazard latch c = false := Bool.eq_false_iff.mpr fun hazard => by
  obtain ⟨p, hp, hv, -⟩ := laterHazard_iff.mp hazard
  exact List.not_mem_nil (h ▸ mem_validSlots.mpr ⟨hp, hv⟩)

theorem validSlots_bubble : validSlots [bubble] = [] := rfl

/-! Fetch behind the last record. -/

theorem chainLane_of_record {policy : Policy} {responses : List ResponseWord} {x : Slot}
    {c : ChainState} {i : Instr} (hf : c.fetchStall = false) (he : c.eosSeen = false)
    (hr : responseAt responses c.tsPos = .record i) :
    chainLane policy responses x false c = chainRecord policy i c := by
  simp [chainLane, hf, he, hr]

/-- The chain once the trace has no further record: nothing blocks Fetch but the end, which is
recorded with the last `op_id` or is the next response. -/
structure NoMoreRecords (responses : List ResponseWord) (c : ChainState) : Prop where
  fetchStall : c.fetchStall = false
  fatalError : c.fatalError = false
  ended : c.eosSeen = true → c.haltIdValid = true ∧ c.haltId = c.opidCtr
  notEnded : c.eosSeen = false → responseAt responses c.tsPos = .endOfStream

/-- Behind the last record an unstalled lane gets a bubble, and the end is recorded. -/
theorem chainLane_of_noMoreRecords {policy : Policy} {responses : List ResponseWord}
    {c : ChainState} (x : Slot) (h : NoMoreRecords responses c) :
    ∃ d, chainLane policy responses x false c = (bubble, d) ∧ NoMoreRecords responses d ∧
      d.opidCtr = c.opidCtr ∧ d.eosSeen = true := by
  cases he : c.eosSeen with
  | true => exact ⟨c, by simp [chainLane, he], h, rfl, he⟩
  | false =>
    exact ⟨{ c with eosSeen := true, haltId := c.opidCtr, haltIdValid := true },
      by simp [chainLane, he, h.fetchStall, h.notEnded he],
      ⟨h.fetchStall, h.fatalError, fun _ => ⟨rfl, rfl⟩, fun hf => nomatch hf⟩, rfl, rfl⟩

/-- Behind the last record Fetch fills unstalled lanes with bubbles, and the first of them records
the end. -/
theorem fetchChain_of_noMoreRecords {policy : Policy} {responses : List ResponseWord} :
    ∀ (xs : List Slot) {c : ChainState}, NoMoreRecords responses c →
      ∃ d, fetchChain policy responses xs (List.replicate xs.length false) c =
          (List.replicate xs.length bubble, d) ∧
        NoMoreRecords responses d ∧ d.opidCtr = c.opidCtr ∧
        (c.eosSeen = true ∨ xs ≠ [] → d.eosSeen = true)
  | [], c, h => ⟨c, rfl, h, rfl, by simp⟩
  | x :: xs, c, h => by
    obtain ⟨u, hlane, hu, huid, hueos⟩ := chainLane_of_noMoreRecords (policy := policy) x h
    obtain ⟨d, hrest, hd, hdid, hdeos⟩ := fetchChain_of_noMoreRecords (policy := policy) xs hu
    refine ⟨d, ?_, hd, hdid.trans huid, fun _ => hdeos (.inl hueos)⟩
    simp only [List.length_cons, List.replicate_succ, fetchChain, hlane, hrest]

/-! The latches while one record is in flight. -/

/-- A latch of `n` lanes with this slot in lane 0 and bubbles behind it. -/
def loneLatch (n : Nat) (x : Slot) : List Slot := x :: List.replicate (n - 1) bubble

theorem loneLatch_bubble {n : Nat} (hn : 0 < n) : loneLatch n bubble = List.replicate n bubble := by
  rw [loneLatch, ← List.replicate_succ, Nat.sub_add_cancel hn]

theorem length_loneLatch {n : Nat} (x : Slot) (hn : 0 < n) : (loneLatch n x).length = n := by
  rw [loneLatch, List.length_cons, List.length_replicate, Nat.sub_add_cancel hn]

theorem mem_loneLatch {n : Nat} {x y : Slot} (h : y ∈ loneLatch n x) : y = x ∨ y = bubble :=
  (List.mem_cons.mp h).imp_right List.eq_of_mem_replicate

theorem map_loneLatch (n : Nat) (x : Slot) {f : Slot → Slot} (hf : f bubble = bubble) :
    (loneLatch n x).map f = loneLatch n (f x) := by
  simp [loneLatch, hf]

theorem validSlots_loneLatch {n : Nat} {x : Slot} :
    validSlots (loneLatch n x) = validSlots [x] := by
  rw [loneLatch, validSlots_cons, validSlots_replicate_bubble, List.append_nil]

/-- A lane with no older instruction in Decode and none in Execute or Memory does not stall
(43_hazard_detector.md R132 to R138). -/
theorem stallOf_of_oldest {cfg : Config} {dec ex ma : List Slot} {c : Slot}
    (hdec : ∀ p ∈ dec, p.valid = true → c.opId ≤ p.opId) (hex : validSlots ex = [])
    (hma : validSlots ma = []) : stallOf cfg dec ex ma c = false := by
  have hid : idHazard dec c = false := Bool.eq_false_iff.mpr fun hh => by
    obtain ⟨p, hp, hv, hlt, -⟩ := idHazard_iff.mp hh
    exact absurd (hdec p hp hv) (Nat.not_le_of_lt hlt)
  have hpre : preStall cfg dec ex ma c = false := by
    cases hpriority : cfg.sourcePriority <;>
      simp [preStall, selectSource, hpriority, hid, laterHazard_eq_false hex,
        laterHazard_eq_false hma]
  refine Bool.eq_false_iff.mpr fun hstall => ?_
  obtain ⟨-, hown | ⟨j, hj, hv, hlt, -⟩⟩ := stallOf_iff.mp hstall
  · simp [hpre] at hown
  · exact absurd (hdec j hj hv) (Nat.not_le_of_lt hlt)

theorem stallOf_of_not_valid {cfg : Config} {dec ex ma : List Slot} {c : Slot}
    (hv : c.valid = false) : stallOf cfg dec ex ma c = false :=
  Bool.eq_false_iff.mpr fun hs => by simp [valid_of_stallOf hs] at hv

/-- Decode of a lone slot leaves it unstalled, when the slot or Execute and Memory are empty. -/
theorem decodeLatch_loneLatch {cfg : Config} {n : Nat} {x : Slot} {ex ma : List Slot}
    (hs : x.stall = false) (h : x.valid = false ∨ validSlots ex = [] ∧ validSlots ma = []) :
    decodeLatch cfg (decodeCopy (loneLatch n x)) ex ma = loneLatch n x := by
  have hcopy : decodeCopy (loneLatch n x) = loneLatch n x :=
    (map_loneLatch n x clearStall_bubble).trans
      (congrArg (loneLatch n) (clearStall_of_stall_eq_false hs))
  have hstall : stallOf cfg (loneLatch n x) ex ma x = x.stall := by
    rw [hs]
    rcases h with hv | ⟨hex, hma⟩
    · exact stallOf_of_not_valid hv
    · refine stallOf_of_oldest (fun p hp hv => ?_) hex hma
      rcases mem_loneLatch hp with rfl | rfl
      · exact le_refl _
      · cases hv
  have hbubble : stallOf cfg (loneLatch n x) ex ma bubble = bubble.stall := stallOf_of_not_valid rfl
  rw [hcopy, decodeLatch, map_loneLatch]
  · rw [hstall]
  · rw [hbubble]

theorem newId_of_loneLatch {n : Nat} {x : Slot} (hfe : s.latchFe = loneLatch n x)
    (hs : x.stall = false)
    (h : x.valid = false ∨
      validSlots (s.latchId.map executeSlot) = [] ∧ validSlots s.latchEx = []) :
    s.newId = loneLatch n x := by
  rw [State.newId, hfe, decodeLatch_loneLatch hs h]

theorem map_stall_loneLatch {n : Nat} {x : Slot} (hs : x.stall = false) :
    ((loneLatch n x).map fun d => d.stall) = List.replicate (loneLatch n x).length false := by
  simp [loneLatch, hs, bubble, List.replicate_succ]

/-- With nothing held, Fetch pulls the last record into lane 0 and fills the other lanes with
bubbles. -/
theorem newLanes_of_lastRecord {n : Nat} {i : Instr} {x : Slot} {c : ChainState}
    (hfe : s.latchFe = loneLatch n bubble) (hstall : s.chainStart.fetchStall = false)
    (heos : s.eosSeen = false) (hnext : s.nextResponse = .record i)
    (hpull : chainRecord s.cfg.policy i s.chainStart = (x, c)) (hc : NoMoreRecords s.trace c) :
    ∃ d, s.newLanes = (loneLatch n x, d) ∧ NoMoreRecords s.trace d ∧ d.opidCtr = c.opidCtr := by
  have hid : s.newId = loneLatch n bubble := newId_of_loneLatch hfe rfl (.inl rfl)
  have hlane : chainLane s.cfg.policy s.trace bubble false s.chainStart = (x, c) :=
    (chainLane_of_record hstall heos hnext).trans hpull
  obtain ⟨d, hrest, hd, hctr, -⟩ := fetchChain_of_noMoreRecords (policy := s.cfg.policy)
    (List.replicate (n - 1) bubble) hc
  refine ⟨d, ?_, hd, hctr⟩
  rw [State.newLanes, hid, hfe, map_stall_loneLatch rfl, loneLatch, List.length_cons,
    List.replicate_succ, fetchChain, hlane, hrest, List.length_replicate]
  rfl

/-! The run. -/

/-- The slot of the first record pulled, not mispredicted (44_fetch_branch_resolution.md R165). -/
def firstSlot (i : Instr) : Slot :=
  { record := i, opId := 1, valid := true, stall := false, isMispred := false }

/-- What lane 0 of the latch that tick `j` fills holds after tick `k`: the record or a bubble. -/
def firstSlotAt (i : Instr) (j k : Nat) : Slot := if k = j then firstSlot i else bubble

/-- The state after tick `k` of a run over one record: the record stands alone, in Fetch after tick
1 and one latch further after each tick, and the trace has no further one (42_pipeline_tick.md
R120). -/
structure LoneRecord (i : Instr) (k : Nat) (s : State) : Prop where
  ticking : Ticking s
  latchFe : s.latchFe = loneLatch s.cfg.n (firstSlotAt i 1 k)
  latchId : s.latchId = loneLatch s.cfg.n (firstSlotAt i 2 k)
  latchEx : s.latchEx = loneLatch s.cfg.n (firstSlotAt i 3 k)
  latchMa : s.latchMa = loneLatch s.cfg.n (firstSlotAt i 4 k)
  opidCtr : s.opidCtr = 1
  statRetired : s.statRetired = 0
  statCycles : s.statCycles = k
  behind : NoMoreRecords s.trace s.chain
  ended : 1 < k → s.eosSeen = true

theorem firstSlotAt_of_ne (i : Instr) {j k : Nat} (h : k ≠ j) : firstSlotAt i j k = bubble :=
  if_neg h

theorem firstSlotAt_stall (i : Instr) (j k : Nat) : (firstSlotAt i j k).stall = false := by
  unfold firstSlotAt
  split <;> rfl

theorem firstSlotAt_succ (i : Instr) (j k : Nat) :
    firstSlotAt i (j + 1) (k + 1) = firstSlotAt i j k := by
  simp [firstSlotAt]

theorem executeSlot_firstSlotAt (i : Instr) (j k : Nat) :
    executeSlot (firstSlotAt i j k) = firstSlotAt i j k := by
  unfold firstSlotAt
  split <;> rfl

section
variable {i : Instr} {k : Nat} (h : LoneRecord i k s)
include h

theorem LoneRecord.step_eq : step s = .next s.rtlTick := by
  obtain ⟨hn, -, -⟩ := h.ticking
  exact tickIsTheRegisterTransferForm s h.ticking (by rw [h.latchFe, length_loneLatch _ hn])

theorem LoneRecord.newId : s.newId = loneLatch s.cfg.n (firstSlotAt i 1 k) := by
  refine newId_of_loneLatch h.latchFe (firstSlotAt_stall i 1 k) ?_
  by_cases h1 : k = 1
  · right
    rw [h.latchId, h.latchEx, map_loneLatch _ _ rfl, executeSlot_firstSlotAt,
      firstSlotAt_of_ne i (by omega), firstSlotAt_of_ne i (by omega), validSlots_loneLatch,
      validSlots_bubble]
    exact ⟨rfl, rfl⟩
  · exact .inl (by rw [firstSlotAt_of_ne i h1]; rfl)

theorem LoneRecord.chainStart : s.chainStart = s.chain := by
  have hstall : s.fetchStall = false := h.behind.fetchStall
  simp [State.chainStart, State.chain, hstall]

/-- Fetch has nothing to pull. -/
theorem LoneRecord.newLanes :
    ∃ d, s.newLanes = (loneLatch s.cfg.n bubble, d) ∧ NoMoreRecords s.trace d ∧ d.opidCtr = 1 ∧
      d.eosSeen = true := by
  obtain ⟨hn, -, -⟩ := h.ticking
  obtain ⟨d, hchain, hd, hid, heos⟩ := fetchChain_of_noMoreRecords (policy := s.cfg.policy)
    (loneLatch s.cfg.n (firstSlotAt i 1 k)) h.behind
  refine ⟨d, ?_, hd, hid.trans h.opidCtr, heos (.inr (List.cons_ne_nil _ _))⟩
  rw [State.newLanes, h.newId, h.latchFe, h.chainStart,
    map_stall_loneLatch (firstSlotAt_stall i 1 k), hchain, length_loneLatch _ hn,
    loneLatch_bubble hn]

/-- A tick moves the lone record one latch on. -/
theorem LoneRecord.tick (hk : 0 < k) (hk4 : k < 4) : LoneRecord i (k + 1) s.rtlTick := by
  obtain ⟨d, hlanes, hd, hid, heos⟩ := h.newLanes
  obtain ⟨hn, hr, hh⟩ := h.ticking
  have hchain : s.rtlTick.chain = d := by rw [s.rtlTick_chain, hlanes]
  have hma : validSlots s.latchMa = [] := by
    rw [h.latchMa, firstSlotAt_of_ne i (by omega), validSlots_loneLatch, validSlots_bubble]
  constructor
  case ticking =>
    refine ⟨hn, hr, ?_⟩
    rw [s.rtlTick_halt, hh, opIdRetires_eq_false hma, Bool.and_false, Bool.or_false]
  case latchFe => rw [s.rtlTick_latchFe, hlanes, firstSlotAt_of_ne i (by omega), s.rtlTick_cfg]
  case latchId => rw [s.rtlTick_latchId, h.newId, firstSlotAt_succ, s.rtlTick_cfg]
  case latchEx =>
    rw [s.rtlTick_latchEx, h.latchId, map_loneLatch _ _ rfl, executeSlot_firstSlotAt,
      firstSlotAt_succ, s.rtlTick_cfg]
  case latchMa => rw [s.rtlTick_latchMa, h.latchEx, firstSlotAt_succ, s.rtlTick_cfg]
  case opidCtr => exact (congrArg ChainState.opidCtr hchain).trans hid
  case statRetired => rw [s.rtlTick_statRetired, hma, h.statRetired, List.length_nil]
  case statCycles => rw [s.rtlTick_statCycles, h.statCycles]
  case behind => rwa [s.rtlTick_trace, hchain]
  case ended => exact fun _ => (congrArg ChainState.eosSeen hchain).trans heos

end

/-- The tick that retires the lone record halts the block (42_pipeline_tick.md R114). -/
theorem LoneRecord.halts {i : Instr} (h : LoneRecord i 4 s) :
    s.rtlTick.halt = true ∧ s.rtlTick.fatalError = false ∧ s.rtlTick.statCycles = 5 ∧
      s.rtlTick.statRetired = 1 := by
  obtain ⟨d, hlanes, hd, -⟩ := h.newLanes
  have hchain : s.rtlTick.chain = d := by rw [s.rtlTick_chain, hlanes]
  obtain ⟨hvalid, hid⟩ : s.haltIdValid = true ∧ s.haltId = s.opidCtr :=
    h.behind.ended (h.ended (by decide))
  have hma : s.latchMa = loneLatch s.cfg.n (firstSlot i) := h.latchMa
  have hretires : opIdRetires s.latchMa s.haltId = true := by
    rw [hid, h.opidCtr, hma]
    exact opIdRetires_iff.mpr ⟨firstSlot i, List.mem_cons_self, rfl, rfl⟩
  refine ⟨?_, (congrArg ChainState.fatalError hchain).trans hd.fatalError, ?_, ?_⟩
  · rw [s.rtlTick_halt, hvalid, hretires, Bool.and_true, Bool.or_true]
  · rw [s.rtlTick_statCycles, h.statCycles]
  · rw [s.rtlTick_statRetired, hma, validSlots_loneLatch, h.statRetired]
    rfl

/-! Tick 1. -/

/-- The first record is pulled; it is not mispredicted, as the reset counters predict TAKEN
(10_state.md R27, 41_branch_predictor.md R92). -/
theorem chainRecord_chainStart_resetWith {cfg : Config} {i : Instr} (responses : List ResponseWord)
    (h : cfg.policy = .gshare → isCbr i = true → i.fields.brDir = .taken) :
    ∃ d, chainRecord cfg.policy i (State.resetWith cfg responses).chainStart = (firstSlot i, d) ∧
      d.fetchStall = false ∧ d.fatalError = false ∧ d.eosSeen = false ∧ d.opidCtr = 1 ∧
      d.tsPos = 1 := by
  have hstart : (State.resetWith cfg responses).chainStart.fetchStall = false := rfl
  unfold chainRecord
  split
  next hbranch =>
    rw [Bool.and_eq_true, decide_eq_true_eq] at hbranch
    obtain ⟨hcbr, hgshare⟩ := hbranch
    have hread : ∀ idx, counterDirection ((State.resetWith cfg responses).chainStart.pht.read idx) =
        i.fields.brDir := fun _ => (h hgshare hcbr).symm
    simp only [hread, ne_eq, not_true_eq_false, decide_false, hstart]
    exact ⟨_, rfl, rfl, rfl, rfl, rfl, rfl⟩
  · exact ⟨_, rfl, hstart, rfl, rfl, rfl, rfl⟩

/-- Tick 1 pulls the record into lane 0 and leaves the trace without a further one. -/
theorem newLanes_resetWith {cfg : Config} {i : Instr} (hn : 0 < cfg.n)
    (h : cfg.policy = .gshare → isCbr i = true → i.fields.brDir = .taken) :
    ∃ d, (State.resetWith cfg (recordTrace [i])).newLanes = (loneLatch cfg.n (firstSlot i), d) ∧
      NoMoreRecords (recordTrace [i]) d ∧ d.opidCtr = 1 := by
  obtain ⟨c, hpull, hstall, hfatal, heos, hctr, hpos⟩ :=
    chainRecord_chainStart_resetWith (recordTrace [i]) h
  have hc : NoMoreRecords (recordTrace [i]) c :=
    ⟨hstall, hfatal, fun he => by simp [heos] at he, fun _ => by rw [hpos]; rfl⟩
  obtain ⟨d, hlanes, hd, hid⟩ := newLanes_of_lastRecord (s := State.resetWith cfg (recordTrace [i]))
    (loneLatch_bubble hn).symm rfl rfl (decodeResponse_encodeResponse (.record i)) hpull hc
  exact ⟨d, hlanes, hd, hid.trans hctr⟩

/-- After tick 1 the record stands alone in the Fetch latch. -/
theorem loneRecord_tick_resetWith {cfg : Config} {i : Instr} (hn : 0 < cfg.n)
    (h : cfg.policy = .gshare → isCbr i = true → i.fields.brDir = .taken) :
    LoneRecord i 1 (State.resetWith cfg (recordTrace [i])).rtlTick := by
  obtain ⟨d, hlanes, hd, hid⟩ := newLanes_resetWith hn h
  have hchain := (State.rtlTick_chain _).trans (congrArg Prod.snd hlanes)
  have hempty : List.replicate cfg.n bubble = loneLatch cfg.n bubble := (loneLatch_bubble hn).symm
  constructor
  case ticking => exact ⟨hn, rfl, rfl⟩
  case latchFe => exact (State.rtlTick_latchFe _).trans (congrArg Prod.fst hlanes)
  case latchId => exact newId_of_loneLatch hempty rfl (.inl rfl)
  case latchEx => exact (congrArg (List.map executeSlot) hempty).trans (map_loneLatch _ _ rfl)
  case latchMa => exact hempty
  case opidCtr => exact (congrArg ChainState.opidCtr hchain).trans hid
  case statRetired =>
    rw [State.rtlTick_statRetired]
    exact (Nat.zero_add _).trans (congrArg List.length (validSlots_replicate_bubble cfg.n))
  case statCycles => rfl
  case behind => rwa [hchain]
  case ended => exact fun hlt => absurd hlt (by decide)

/-- Settles O58: tick 1 pulls the record, three ticks move it to Memory, and tick 5 retires it. -/
theorem oneRecordHaltsInTickFive : Obligations.OneRecordHaltsInTickFive := by
  intro cfg i hn hdir
  have h0 : step (State.resetWith cfg (recordTrace [i])) =
      .next (State.resetWith cfg (recordTrace [i])).rtlTick :=
    tickIsTheRegisterTransferForm _ (resetWith_ticking _ hn) List.length_replicate
  have h1 := loneRecord_tick_resetWith hn hdir
  have h2 := h1.tick (by decide) (by decide)
  have h3 := h2.tick (by decide) (by decide)
  have h4 := h3.tick (by decide) (by decide)
  have hrun := fun k => (run_succ_of_step (k + 3) h0).trans <|
    (run_succ_of_step (k + 2) h1.step_eq).trans <|
      (run_succ_of_step (k + 1) h2.step_eq).trans (run_succ_of_step k h3.step_eq)
  obtain ⟨-, -, hrunning⟩ := h4.ticking
  exact ⟨_, _, hrun 0, hrunning, (hrun 1).trans (run_succ_of_step 0 h4.step_eq), h4.halts⟩

end Sys2Proof.Machine
end

section
/-!
SUPPORT. The collision function and the arbiter (43_hazard_detector.md R131 to R136, R144, R145): what
`pre_stall` of a lane is when Decode, Execute or Memory is the first latch it collides in.
-/

namespace Sys2Proof.Machine

/-! Collisions (43_hazard_detector.md R131). -/

/-- Two operands name one register when both exist and their ids are equal. -/
theorem sameRegister_operand_iff {n m : Bool} {r d : RegId} :
    sameRegister (operand n r) (operand m d) = true ↔ n = true ∧ m = true ∧ r = d := by
  cases n <;> cases m <;> simp [operand, sameRegister]

/-- Settles O35: one alternative for the condition codes and one for each source operand. -/
theorem collisionIsReadAfterWrite : Obligations.CollisionIsReadAfterWrite := by
  intro c p
  simp only [collide, ccOverlap, src1Operand, src2Operand, destOperand, Bool.or_eq_true,
    Bool.and_eq_true, sameRegister_operand_iff, or_assoc]

/-! The arbiter, by the first latch the lane collides in (43_hazard_detector.md R135). -/

section
variable {cfg : Config} {dec ex ma : List Slot} {c : Slot}

/-- A collision in Decode stalls under both source priorities. -/
theorem preStall_of_idHazard (hv : c.valid = true) (hid : idHazard dec c = true) :
    preStall cfg dec ex ma c = true := by
  cases hpriority : cfg.sourcePriority <;> simp [preStall, selectSource, hpriority, hv, hid]

/-- The spec's source priority lets Execute hide Memory. -/
theorem preStall_of_execute (hpriority : cfg.sourcePriority = .perLane) (hv : c.valid = true)
    (hid : idHazard dec c = false) (hex : laterHazard ex c = true) :
    preStall cfg dec ex ma c = exUnresolved cfg ex c := by
  simp [preStall, selectSource, hpriority, hv, hid, hex]

/-- Without a collision in Decode or Execute, Memory decides under both source priorities. -/
theorem preStall_of_memory (hv : c.valid = true) (hid : idHazard dec c = false)
    (hex : laterHazard ex c = false) :
    preStall cfg dec ex ma c = (laterHazard ma c && !cfg.fwdMa) := by
  cases hpriority : cfg.sourcePriority <;> cases hma : laterHazard ma c <;>
    simp [preStall, selectSource, hpriority, hv, hid, hex, hma]

/-- Under the other source priority Memory is consulted beside Execute. -/
theorem preStall_of_everyCollision (hpriority : cfg.sourcePriority = .everyCollision)
    (hv : c.valid = true) (hid : idHazard dec c = false) (hex : laterHazard ex c = true) :
    preStall cfg dec ex ma c = (exUnresolved cfg ex c || (laterHazard ma c && !cfg.fwdMa)) := by
  simp [preStall, hpriority, hv, hid, hex]

theorem preStall_of_not_valid (hv : c.valid = false) : preStall cfg dec ex ma c = false := by
  simp [preStall, hv]

/-- By the spec's reading an Execute collision is waived exactly when FWD_EX is on and no collider is a
LOAD. -/
theorem exUnresolved_eq_false_iff (hreading : cfg.loadUse = .anyLoad) :
    exUnresolved cfg ex c = false ↔
      cfg.fwdEx = true ∧ ∀ p ∈ colliders ex c, isLoad p.record = false := by
  simp [exUnresolved, hreading, loadUse]

theorem exUnresolved_of_fwdEx_off (h : cfg.fwdEx = false) : exUnresolved cfg ex c = true := by
  simp [exUnresolved, h]

end

theorem isLoad_iff {i : Instr} : isLoad i = true ↔ ∃ f, i = .load f := by
  cases i <;> simp [isLoad]

theorem laterHazard_iff_colliders_ne_nil {latch : List Slot} {c : Slot} :
    laterHazard latch c = true ↔ colliders latch c ≠ [] := by
  simp [laterHazard]

/-- Settles O36: the rows follow the first latch the lane collides in. -/
theorem arbiterFollowsTheTruthTable : Obligations.ArbiterFollowsTheTruthTable := by
  rintro cfg dec ex ma c ⟨hpriority, hreading⟩ hv
  dsimp only
  rw [← idHazard_iff, ← laterHazard_iff (latch := ex), ← laterHazard_iff (latch := ma)]
  simp only [← mem_colliders, Bool.not_eq_true]
  refine ⟨preStall_of_idHazard hv, fun hid hex hfwd => ?_, ?_, ?_, fun hid hex hma hfwd => ?_,
    fun hid hex hma hfwd => ?_, fun hid hex hma => ?_⟩
  · rw [preStall_of_execute hpriority hv hid hex, exUnresolved_of_fwdEx_off hfwd]
  · rintro - ⟨p, f, hp, hload⟩ -
    exact preStall_of_exUnresolved hv (laterHazard_iff.mpr ⟨p, mem_colliders.mp hp⟩)
      (exUnresolved_of_load hreading hp (isLoad_iff.mpr ⟨f, hload⟩))
  · intro hid hex hnone hfwd
    rw [preStall_of_execute hpriority hv hid hex, exUnresolved_eq_false_iff hreading]
    refine ⟨hfwd, fun p hp => Bool.eq_false_iff.mpr fun hload => ?_⟩
    obtain ⟨f, hf⟩ := isLoad_iff.mp hload
    exact hnone ⟨p, f, hp, hf⟩
  all_goals simp [preStall_of_memory hv hid hex, *]

/-! The other readings (43_hazard_detector.md R145). -/

/-- Where the two source priorities differ, Execute's collision is waived and Memory's is not. -/
theorem everyCollision_ne_perLane {cfg : Config} {dec ex ma : List Slot} {c : Slot}
    (hpriority : cfg.sourcePriority = .perLane)
    (hne : preStall { cfg with sourcePriority := .everyCollision } dec ex ma c ≠
      preStall cfg dec ex ma c) :
    exUnresolved cfg ex c = false ∧ cfg.fwdMa = false ∧ laterHazard ex c = true ∧
      laterHazard ma c = true ∧ preStall cfg dec ex ma c = false := by
  cases hv : c.valid with
  | false => simp [preStall_of_not_valid hv] at hne
  | true =>
    cases hid : idHazard dec c with
    | true => simp [preStall_of_idHazard hv hid] at hne
    | false =>
      cases hex : laterHazard ex c with
      | false => simp [preStall_of_memory hv hid hex] at hne
      | true =>
        have hsame : exUnresolved { cfg with sourcePriority := .everyCollision } ex c =
          exUnresolved cfg ex c := rfl
        rw [preStall_of_everyCollision rfl hv hid hex, hsame] at hne
        rw [preStall_of_execute hpriority hv hid hex] at hne ⊢
        obtain ⟨hma, hfwdMa, hwaived⟩ : laterHazard ma c = true ∧ cfg.fwdMa = false ∧
            exUnresolved cfg ex c = false := by simpa using hne
        exact ⟨hwaived, hfwdMa, rfl, hma, hwaived⟩

theorem exists_youngest {l : List Slot} (h : l ≠ []) : ∃ q, youngest l = some q := by
  cases l with
  | nil => exact absurd rfl h
  | cons p t =>
    rw [youngest]
    cases youngest t with
    | none => exact ⟨p, rfl⟩
    | some q =>
      dsimp only
      split
      · exact ⟨p, rfl⟩
      · exact ⟨q, rfl⟩

/-- Where the two load-use readings differ, some producer is a LOAD and the youngest is none. -/
theorem youngestLoad_ne_anyLoad {producers : List Slot}
    (h : loadUse .youngestLoad producers ≠ loadUse .anyLoad producers) :
    (∃ p ∈ producers, isLoad p.record = true) ∧ ∃ q ∈ producers, isLoad q.record = false := by
  have hnonempty : producers ≠ [] := by
    rintro rfl
    exact h rfl
  obtain ⟨q, hq⟩ := exists_youngest hnonempty
  have hmem := youngest_mem hq
  have hyoungest : loadUse .youngestLoad producers = isLoad q.record := by simp [loadUse, hq]
  rw [hyoungest] at h
  cases hload : isLoad q.record with
  | true => exact absurd (hload.trans (List.any_eq_true.mpr ⟨q, hmem, hload⟩).symm) h
  | false =>
    rw [hload] at h
    exact ⟨List.any_eq_true.mp (Bool.eq_true_of_not_eq_false h.symm), q, hmem, hload⟩

/-- The arbiter reads the load-use switch only where FWD_EX is on and the lane collides in Execute. -/
theorem loadUse_ne_of_preStall_ne {cfg : Config} {reading : LoadUseReading} {dec ex ma : List Slot}
    {c : Slot} (hpriority : cfg.sourcePriority = .perLane)
    (hne : preStall { cfg with loadUse := reading } dec ex ma c ≠ preStall cfg dec ex ma c) :
    cfg.fwdEx = true ∧ loadUse reading (colliders ex c) ≠ loadUse cfg.loadUse (colliders ex c) := by
  cases hv : c.valid with
  | false => simp [preStall_of_not_valid hv] at hne
  | true =>
    cases hid : idHazard dec c with
    | true => simp [preStall_of_idHazard hv hid] at hne
    | false =>
      cases hex : laterHazard ex c with
      | false => simp [preStall_of_memory hv hid hex] at hne
      | true =>
        rw [preStall_of_execute hpriority hv hid hex,
          preStall_of_execute (cfg := { cfg with loadUse := reading }) hpriority hv hid hex] at hne
        cases hfwd : cfg.fwdEx <;> simp [exUnresolved, hfwd] at hne
        exact ⟨rfl, hne⟩

/-- Settles O37: the source priorities differ only where Execute hides Memory, and the load-use readings
only between a LOAD and the youngest collider. -/
theorem otherReadingsDifferOnlyInTheCorners : Obligations.OtherReadingsDifferOnlyInTheCorners := by
  rintro cfg dec ex ma c ⟨hpriority, hreading⟩
  constructor
  · intro hne
    obtain ⟨hwaived, hfwdMa, hex, hma, hpre⟩ := everyCollision_ne_perLane hpriority hne
    obtain ⟨hfwdEx, hnoLoad⟩ := (exUnresolved_eq_false_iff hreading).mp hwaived
    exact ⟨hfwdEx, hfwdMa, laterHazard_iff_colliders_ne_nil.mp hex,
      laterHazard_iff_colliders_ne_nil.mp hma, hnoLoad, hpre⟩
  · intro hne
    obtain ⟨hfwdEx, hread⟩ := loadUse_ne_of_preStall_ne hpriority hne
    rw [hreading] at hread
    obtain ⟨⟨p, hp, hload⟩, q, hq, hother⟩ := youngestLoad_ne_anyLoad hread
    have hpq : p ≠ q := by
      rintro rfl
      exact Bool.false_ne_true (hother.symm.trans hload)
    have hboth : [p, q] ⊆ ex := by simp [(mem_colliders.mp hp).1, (mem_colliders.mp hq).1]
    exact ⟨hfwdEx, (List.subperm_of_subset (by simpa using hpq) hboth).length_le,
      ⟨p, hp, hload⟩, q, hq, hother⟩

end Sys2Proof.Machine
end

section
/-!
SUPPORT. The stall flags of a whole Decode latch (43_hazard_detector.md R138, R139, R146): the in-order
propagation from the oldest lane with a hazard of its own, bubbles, and latches without a collision.
-/

namespace Sys2Proof.Machine

/-! The in-order propagation (43_hazard_detector.md R138). -/

/-- No lane stalls when none has a hazard of its own. -/
theorem stallOf_eq_false_of_preStall {cfg : Config} {dec ex ma : List Slot} {c : Slot}
    (h : ∀ m ∈ dec, preStall cfg dec ex ma m = false) (hc : c ∈ dec) :
    stallOf cfg dec ex ma c = false := by
  refine Bool.eq_false_iff.mpr fun hstall => ?_
  obtain ⟨-, hown | ⟨j, hj, -, -, hpre⟩⟩ := stallOf_iff.mp hstall
  · exact Bool.false_ne_true ((h c hc).symm.trans hown)
  · exact Bool.false_ne_true ((h j hj).symm.trans hpre)

/-- Valid slots of distinct `op_id`s are told apart by them. -/
theorem eq_of_opId_eq {latch : List Slot} (h : ((validSlots latch).map fun x => x.opId).Nodup)
    {a b : Slot} (ha : a ∈ latch) (hav : a.valid = true) (hb : b ∈ latch) (hbv : b.valid = true)
    (heq : a.opId = b.opId) : a = b :=
  List.inj_on_of_nodup_map h (mem_validSlots.mpr ⟨ha, hav⟩) (mem_validSlots.mpr ⟨hb, hbv⟩) heq

/-- With `m` the oldest lane that has a hazard of its own, a valid lane stalls exactly when it is not
older than `m`. -/
theorem stallOf_iff_opId_le {cfg : Config} {dec ex ma : List Slot} {m c : Slot}
    (hids : ((validSlots dec).map fun x => x.opId).Nodup) (hm : m ∈ dec) (hmv : m.valid = true)
    (hpre : preStall cfg dec ex ma m = true)
    (holdest : ∀ j ∈ dec, j.valid = true → preStall cfg dec ex ma j = true → m.opId ≤ j.opId)
    (hc : c ∈ dec) (hcv : c.valid = true) :
    stallOf cfg dec ex ma c = true ↔ m.opId ≤ c.opId := by
  rw [stallOf_iff]
  constructor
  · rintro ⟨-, hown | ⟨j, hj, hjv, hlt, hjpre⟩⟩
    · exact holdest c hc hcv hown
    · exact (holdest j hj hjv hjpre).trans hlt.le
  · intro hle
    rcases hle.eq_or_lt with heq | hlt
    · obtain rfl := eq_of_opId_eq hids hm hmv hc hcv heq
      exact ⟨hcv, .inl hpre⟩
    · exact ⟨hcv, .inr ⟨m, hm, hmv, hlt, hpre⟩⟩

/-- Settles O38. -/
theorem oldestHazardStallsEverythingYounger : Obligations.OldestHazardStallsEverythingYounger := by
  intro cfg dec ex ma hids
  refine ⟨fun c _ hcv => ?_,
    fun m hm hmv hpre holdest c hc hcv => stallOf_iff_opId_le hids hm hmv hpre holdest hc hcv,
    fun h c hc => stallOf_eq_false_of_preStall h hc⟩
  rw [stallOf_iff, and_iff_right hcv]

/-! Bubbles (43_hazard_detector.md R139): every check of a latch asks for a valid slot first. -/

theorem any_validSlots (latch : List Slot) (f : Slot → Bool) :
    ((validSlots latch).any fun p => p.valid && f p) = latch.any fun p => p.valid && f p := by
  rw [validSlots, List.any_filter]
  simp only [← Bool.and_assoc, Bool.and_self]

theorem idHazard_validSlots (latch : List Slot) (c : Slot) :
    idHazard (validSlots latch) c = idHazard latch c := by
  simp only [idHazard, Bool.and_assoc, any_validSlots]

theorem colliders_validSlots (latch : List Slot) (c : Slot) :
    colliders (validSlots latch) c = colliders latch c := by
  rw [colliders, validSlots, List.filter_filter, colliders]
  refine List.filter_congr fun p _ => ?_
  cases p.valid <;> simp

theorem laterHazard_validSlots (latch : List Slot) (c : Slot) :
    laterHazard (validSlots latch) c = laterHazard latch c := by
  rw [laterHazard, colliders_validSlots, laterHazard]

theorem preStall_validSlots (cfg : Config) (dec ex ma : List Slot) (c : Slot) :
    preStall cfg (validSlots dec) (validSlots ex) (validSlots ma) c = preStall cfg dec ex ma c := by
  simp only [preStall, selectSource, exUnresolved, idHazard_validSlots, laterHazard_validSlots,
    colliders_validSlots]

/-- Settles O40: a stall flag asks for a valid lane, and every latch is read through its valid slots. -/
theorem bubblesTakeNoPartInTheStalls : Obligations.BubblesTakeNoPartInTheStalls := by
  intro cfg dec ex ma c
  refine ⟨stallOf_of_not_valid, ?_⟩
  simp only [stallOf, preStall_validSlots, Bool.and_assoc, any_validSlots]

/-! Independent instructions (43_hazard_detector.md R146, last sentence). -/

theorem idHazard_eq_false_of_collide {latch : List Slot} {c : Slot}
    (h : ∀ p ∈ latch, collide c p = false) : idHazard latch c = false :=
  Bool.eq_false_iff.mpr fun hazard => by
    obtain ⟨p, hp, -, -, hcollide⟩ := idHazard_iff.mp hazard
    exact Bool.false_ne_true ((h p hp).symm.trans hcollide)

theorem laterHazard_eq_false_of_collide {latch : List Slot} {c : Slot}
    (h : ∀ p ∈ latch, collide c p = false) : laterHazard latch c = false :=
  Bool.eq_false_iff.mpr fun hazard => by
    obtain ⟨p, hp, -, -, hcollide⟩ := laterHazard_iff.mp hazard
    exact Bool.false_ne_true ((h p hp).symm.trans hcollide)

/-- A lane that collides with nothing has no hazard of its own. -/
theorem preStall_eq_false_of_collide {cfg : Config} {dec ex ma : List Slot} {c : Slot}
    (h : ∀ p ∈ dec ++ ex ++ ma, collide c p = false) : preStall cfg dec ex ma c = false := by
  simp only [List.mem_append] at h
  cases hv : c.valid with
  | false => exact preStall_of_not_valid hv
  | true =>
    have hid := idHazard_eq_false_of_collide fun p hp => h p (.inl (.inl hp))
    have hex := laterHazard_eq_false_of_collide fun p hp => h p (.inl (.inr hp))
    have hma := laterHazard_eq_false_of_collide fun p hp => h p (.inr hp)
    rw [preStall_of_memory hv hid hex, hma, Bool.false_and]

/-- Settles O42: no lane has a hazard of its own, so none is behind one that has. -/
theorem independentInstructionsNeverStall : Obligations.IndependentInstructionsNeverStall :=
  fun _ _ _ _ h _ hc =>
    stallOf_eq_false_of_preStall (fun m hm => preStall_eq_false_of_collide (h m hm)) hc

end Sys2Proof.Machine
end

section
/-!
SUPPORT. One lane (43_hazard_detector.md R146): the Decode slot a tick of an instance of width 1 leaves,
the state it leaves when that slot is stalled, and the stall ticks of a consumer right behind its
producer.
-/

namespace Sys2Proof.Machine

variable {s : State}

/-- A ticking instance of width 1 under the spec's readings, with the one slot of each latch. -/
structure OneLane (fe dec ex ma : Slot) (s : State) : Prop where
  ticking : Ticking s
  width : s.cfg.n = 1
  readings : SpecReadings s.cfg
  latchFe : s.latchFe = [fe]
  latchId : s.latchId = [dec]
  latchEx : s.latchEx = [ex]
  latchMa : s.latchMa = [ma]

/-- The only lane of Decode has no older one beside it: its own hazard in Execute or Memory decides. -/
theorem idHazard_self (c : Slot) : idHazard [clearStall c] c = false :=
  Bool.eq_false_iff.mpr fun hazard => by
    obtain ⟨p, hp, -, hlt, -⟩ := idHazard_iff.mp hazard
    rw [List.mem_singleton.mp hp] at hlt
    exact lt_irrefl _ hlt

theorem stallOf_self (cfg : Config) (ex ma : List Slot) (c : Slot) :
    stallOf cfg [clearStall c] ex ma c = preStall cfg [clearStall c] ex ma c := by
  rw [Bool.eq_iff_iff, stallOf_iff]
  constructor
  · rintro ⟨-, hown | ⟨j, hj, -, hlt, -⟩⟩
    · exact hown
    · rw [List.mem_singleton.mp hj] at hlt
      exact absurd hlt (lt_irrefl _)
  · exact fun hpre => ⟨valid_of_stallOf (stallOf_of_preStall hpre), .inl hpre⟩

section
variable {c d x y : Slot} (h : OneLane c d x y s)
include h

theorem OneLane.step_eq : step s = .next s.rtlTick :=
  tickIsTheRegisterTransferForm s h.ticking (by rw [h.latchFe, h.width]; rfl)

theorem OneLane.newId : s.newId =
    [{ c with stall := preStall s.cfg [clearStall c] [executeSlot d] [x] c }] := by
  rw [State.newId, h.latchFe, h.latchId, h.latchEx]
  exact congrArg (fun b => [{ c with stall := b }]) (stallOf_self ..)

/-- A stalled lane keeps its slot in Fetch, and a tick that retires nothing does not halt. -/
theorem OneLane.hold (hy : y.valid = false)
    (hpre : preStall s.cfg [clearStall c] [executeSlot d] [x] c = true) :
    OneLane c { c with stall := true } (executeSlot d) x s.rtlTick := by
  have hid : s.newId = [{ c with stall := true }] := by rw [h.newId, hpre]
  obtain ⟨hn, hr, hh⟩ := h.ticking
  constructor
  case ticking =>
    have hretires : opIdRetires s.latchMa s.haltId = false := by simp [h.latchMa, hy]
    exact ⟨hn, hr, by rw [s.rtlTick_halt, hh, hretires, Bool.and_false, Bool.or_false]⟩
  case width => exact h.width
  case readings => exact h.readings
  case latchFe =>
    rw [s.rtlTick_latchFe, State.newLanes, hid, h.latchFe]
    rfl
  case latchId => exact hid
  case latchEx =>
    rw [s.rtlTick_latchEx, h.latchId]
    rfl
  case latchMa => exact h.latchEx

end

/-- With the producer in Execute the lane stalls unless it is forwarded and no LOAD. -/
theorem preStall_producer_in_execute {cfg : Config} {p c : Slot} {ma : List Slot}
    (hreadings : SpecReadings cfg) (hpv : p.valid = true) (hcv : c.valid = true)
    (hle : p.opId ≤ c.opId) (hcollide : collide c p = true) :
    preStall cfg [clearStall c] [p] ma c = (!cfg.fwdEx || isLoad p.record) := by
  obtain ⟨hpriority, hreading⟩ := hreadings
  have hcolliders : colliders [p] c = [p] := by simp [colliders, hpv, hle, hcollide]
  have hex : laterHazard [p] c = true := by simp [laterHazard, hcolliders]
  rw [preStall_of_execute hpriority hcv (idHazard_self c) hex]
  simp [exUnresolved, hcolliders, hreading, loadUse]

/-- With the producer in Memory and Execute empty the lane stalls unless Memory is forwarded. -/
theorem preStall_producer_in_memory {cfg : Config} {p c : Slot} (hpv : p.valid = true)
    (hcv : c.valid = true) (hle : p.opId ≤ c.opId) (hcollide : collide c p = true) :
    preStall cfg [clearStall c] [bubble] [p] c = !cfg.fwdMa := by
  have hma : laterHazard [p] c = true :=
    laterHazard_iff.mpr ⟨p, List.mem_singleton_self p, hpv, hle, hcollide⟩
  rw [preStall_of_memory hcv (idHazard_self c) (laterHazard_eq_false validSlots_bubble), hma,
    Bool.true_and]

/-- With the producer gone the lane does not stall. -/
theorem preStall_producer_retired {cfg : Config} {c : Slot} (hcv : c.valid = true) :
    preStall cfg [clearStall c] [bubble] [bubble] c = false := by
  have hempty : laterHazard [bubble] c = false := laterHazard_eq_false validSlots_bubble
  rw [preStall_of_memory hcv (idHazard_self c) hempty, hempty, Bool.false_and]

/-! The table of 43_hazard_detector.md R146, tick by tick. -/

theorem zero_lt_adjacentStalls (load fwdEx fwdMa : Bool) :
    decide (0 < adjacentStalls load fwdEx fwdMa) = (!fwdEx || load) := by
  cases load <;> cases fwdEx <;> cases fwdMa <;> rfl

theorem one_lt_adjacentStalls {load fwdEx fwdMa : Bool} (h : 0 < adjacentStalls load fwdEx fwdMa) :
    decide (1 < adjacentStalls load fwdEx fwdMa) = !fwdMa := by
  revert h
  cases load <;> cases fwdEx <;> cases fwdMa <;> decide

theorem adjacentStalls_le_two (load fwdEx fwdMa : Bool) : adjacentStalls load fwdEx fwdMa ≤ 2 := by
  cases load <;> cases fwdEx <;> cases fwdMa <;> decide

/-- Settles O43: the producer stands in Execute, then in Memory, then is gone, while the stalled
consumer is held; each tick's flag is the table's. -/
theorem adjacentConsumerStallsTheTablesTicks :
    Obligations.AdjacentConsumerStallsTheTablesTicks := by
  intro s p c k hn hticking hreadings hfe hid hex hma hpv hps hcv hle hcollide stalls hk
  have h0 : OneLane c p bubble bubble s := ⟨hticking, hn, hreadings, hfe, hid, hex, hma⟩
  have hpre0 : preStall s.cfg [clearStall c] [executeSlot p] [bubble] c = decide (0 < stalls) := by
    rw [executeSlot_of_released hpv hps,
      preStall_producer_in_execute hreadings hpv hcv hle hcollide, zero_lt_adjacentStalls]
  match k, hk with
  | 0, _ =>
    exact ⟨s.rtlTick, run_succ_of_step 0 h0.step_eq, by rw [s.rtlTick_latchId, h0.newId, hpre0]⟩
  | k + 1, hk =>
    have hpos : 0 < stalls := by omega
    have h1 := h0.hold rfl (hpre0.trans (decide_eq_true hpos))
    rw [executeSlot_of_released hpv hps] at h1
    have hpre1 : preStall s.rtlTick.cfg [clearStall c] [executeSlot { c with stall := true }] [p] c =
        decide (1 < stalls) := by
      rw [executeSlot_of_stall rfl, preStall_producer_in_memory hpv hcv hle hcollide,
        one_lt_adjacentStalls hpos, s.rtlTick_cfg]
    match k, hk with
    | 0, _ =>
      exact ⟨_, (run_succ_of_step 1 h0.step_eq).trans (run_succ_of_step 0 h1.step_eq), by
        rw [State.rtlTick_latchId, h1.newId, hpre1]⟩
    | k + 1, hk =>
      have htwo : stalls ≤ 2 := adjacentStalls_le_two ..
      obtain rfl : k = 0 := by omega
      have h2 := h1.hold rfl (hpre1.trans (decide_eq_true (by omega)))
      rw [executeSlot_of_stall rfl] at h2
      refine ⟨_, (run_succ_of_step 2 h0.step_eq).trans <|
        (run_succ_of_step 1 h1.step_eq).trans (run_succ_of_step 0 h2.step_eq), ?_⟩
      have hdone : decide (2 < stalls) = false := decide_eq_false (by omega)
      rw [State.rtlTick_latchId, h2.newId, executeSlot_of_stall rfl, preStall_producer_retired hcv,
        hdone]

end Sys2Proof.Machine
end

section
/-!
SUPPORT. A pulled record and one lane of Fetch (44_fetch_branch_resolution.md R160 to R166): what
resolving a branch writes, what running any record leaves alone, and the four cases of a lane.
-/

namespace Sys2Proof.Machine

variable {s t : State}

/-! A pulled record. -/

/-- A CBR under GSHARE is resolved, then placed (44_fetch_branch_resolution.md R166). -/
theorem exec_cbr_of_gshare (h : s.cfg.policy = .gshare) (f : RecordFields) :
    exec (.cbr f) s =
      .next ((s.resolveBranch f).2.placeRecord (.cbr f) (s.resolveBranch f).1) := by
  rw [exec, execCbr, h]

/-- Resolving a branch under GSHARE, with the prediction of the counter at the old index
(41_branch_predictor.md R92, R96 to R98). -/
theorem resolveBranch_of_gshare (h : s.cfg.policy = .gshare) (f : RecordFields) :
    let idx := phtIndex f.addr s.ghr
    let p := counterDirection (s.pht.read idx)
    s.resolveBranch f =
      (decide (p ≠ f.brDir),
        { s with
          fetchStall := s.fetchStall || decide (p ≠ f.brDir)
          statBranches := s.statBranches + 1
          statMispred := s.statMispred + (if p = f.brDir then 0 else 1)
          pht := s.pht.write idx (trainCounter f.brDir (s.pht.read idx))
          ghr := shiftHistory s.ghr f.brDir }) := by
  intro idx p
  have hcount : s.statMispred + (if p = f.brDir then 0 else 1) =
      if p = f.brDir then s.statMispred else s.statMispred + 1 := by
    split <;> rfl
  rw [hcount]
  simp only [State.resolveBranch, State.update_eq, predict_of_gshare h, h]
  rfl

/-- Settles O18: under GSHARE the branch is resolved and placed, under PERFECT only placed. -/
theorem branchIsResolvedAtFetch : Obligations.BranchIsResolvedAtFetch := by
  refine fun f s => ⟨fun hp => ?_, fun hp => exec_of_perfect hp (.cbr f)⟩
  intro idx p
  rw [exec_cbr_of_gshare hp, resolveBranch_of_gshare hp, trainCounter_eq]
  rfl

/-- No record but a CBR under GSHARE touches the predictor or the fetch-stall
(40_record_kinds.md R87). -/
theorem exec_samePredictor {i : Instr} (h : s.cfg.policy = .perfect ∨ isCbr i = false)
    (hexec : exec i s = .next t) : SamePredictor s t ∧ t.fetchStall = s.fetchStall := by
  have hplaced : exec i s = .next (s.placeRecord i false) :=
    h.elim (fun hp => exec_of_perfect hp i) fun hc => exec_of_not_isCbr hc s
  cases hplaced.symm.trans hexec
  exact ⟨⟨rfl, rfl, rfl, rfl, rfl⟩, rfl⟩

/-- Running a record trains no counter of a canonical table but a GSHARE branch's own
(41_branch_predictor.md R97). -/
theorem exec_pht_read {i : Instr} {idx : Nat} (hwf : s.pht.wf = true)
    (h : s.cfg.policy = .perfect ∨ isCbr i = false ∨ idx ≠ phtIndex i.fields.addr s.ghr)
    (hexec : exec i s = .next t) : t.pht.read idx = s.pht.read idx := by
  rw [← or_assoc] at h
  rcases h with hplain | hidx
  · obtain ⟨hsame, -⟩ := exec_samePredictor hplain hexec
    rw [hsame.pht]
  · rcases exec_cases i s with he | ⟨f, rfl, hp, he⟩
    · cases he.symm.trans hexec
      rfl
    · cases he.symm.trans hexec
      exact (update_pht_read_of_gshare hp hwf f.addr _ _ idx).trans (if_neg hidx)

theorem getElem?_concat_of_ne {α : Type} {l : List α} {k : Nat} (x : α) (h : k ≠ l.length) :
    (l ++ [x])[k]? = l[k]? := by
  rcases h.lt_or_gt with hlt | hgt
  · exact List.getElem?_append_left hlt
  · rw [List.getElem?_eq_none (by simpa using hgt), List.getElem?_eq_none hgt.le]

/-- Settles O19: `exec` answers in the frame of Fetch with one lane more, and only a CBR under GSHARE
goes through `update`. -/
theorem recordWritesOnlyItsLaneAndThePredictor :
    Obligations.RecordWritesOnlyItsLaneAndThePredictor := by
  intro i s hwf
  obtain ⟨t, m, hexec, hframe, hpos, -, hfe, -, heos, hid, hidv, hfatal⟩ := exec_spec i s
  obtain ⟨-, hkeeps, -⟩ := exec_predictor hexec
  refine ⟨t, hexec, by rw [hfe, List.length_append, List.length_singleton],
    fun l hl => by rw [hfe, getElem?_concat_of_ne _ hl], hframe.latchId, hframe.latchEx,
    hframe.latchMa, hframe.cfg, hframe.rst, hframe.responses, hpos, heos, hid, hidv, hframe.halt,
    hfatal, hframe.statCycles, hframe.statRetired, hkeeps hwf,
    fun idx hidx => exec_pht_read hwf hidx hexec, fun hplain => ?_⟩
  obtain ⟨hsame, hstall⟩ := exec_samePredictor hplain hexec
  exact ⟨hsame.ghr, hsame.statBranches, hsame.statMispred, hstall⟩

/-! One lane. -/

/-- Settles O20. -/
theorem stalledLaneIsHeld : Obligations.StalledLaneIsHeld :=
  fun old _ h => fetchLane_of_stalled old h

/-- Settles O21. -/
theorem blockedLaneGetsABubble : Obligations.BlockedLaneGetsABubble :=
  fun old _ hs hb => fetchLane_of_blocked old hs hb

/-- A lane that is neither held nor blocked runs the record at the cursor
(44_fetch_branch_resolution.md R164). -/
theorem fetchLane_of_record {i : Instr} (old : List Slot) (hs : s.laneStalled = false)
    (hf : s.fetchStall = false) (he : s.eosSeen = false) (hr : s.nextResponse = .record i) :
    s.fetchLane old = exec i s.advance :=
  (fetchLane_of_free old hs hf he).trans (fetchAttempt_of_record hr)

/-- Settles O22: the lane makes the attempt, and the response decides it. -/
theorem fetchAttemptHasThreeOutcomes : Obligations.FetchAttemptHasThreeOutcomes := by
  intro old s hs hf he
  have hattempt := fetchLane_of_free old hs hf he
  exact ⟨fun i hr => fetchLane_of_record old hs hf he hr,
    fun hr => hattempt.trans (fetchAttempt_of_endOfStream hr),
    fun hr => hattempt.trans (fetchAttempt_of_malformed hr)⟩

/-! The first lane of a tick. -/

/-- The lanes of a Fetch of `n` lanes are lane 0 and the `n - 1` behind it. -/
theorem fetchLanes_of_pos (old : List Slot) {n : Nat} (hn : 0 < n) (s : State) :
    fetchLanes old n s = andThen (s.fetchLane old) (fetchLanes old (n - 1)) := by
  obtain ⟨k, rfl⟩ := Nat.exists_eq_add_one.mpr hn
  rfl

/-- A tick whose lane 0 makes an attempt and meets a record runs it on the state the other stages
leave; the other lanes follow. -/
theorem step_of_record {i : Instr} (h : Ticking s) (hr : s.nextResponse = .record i)
    (hs : s.fetchStart.laneStalled = false) (hf : s.beforeFetch.fetchStall = false)
    (he : s.eosSeen = false) :
    step s = andThen (exec i s.fetchStart.advance) (fetchLanes s.latchFe (s.cfg.n - 1)) := by
  obtain ⟨hn, hrst, hh⟩ := h
  have hnext : s.fetchStart.nextResponse = .record i := by
    simpa [State.nextResponse] using hr
  have hlane : s.fetchStart.fetchLane s.latchFe = exec i s.fetchStart.advance :=
    fetchLane_of_record s.latchFe hs hf (s.beforeFetch_eosSeen.trans he) hnext
  rw [step_of_tick hn hrst hh, s.tick_eq, fetchLanes_of_pos s.latchFe hn, hlane]

/-- Settles O16: lane 0 of the tick, and one lane by its case. -/
theorem stepRunsTheDecodedRecord : Obligations.StepRunsTheDecodedRecord :=
  ⟨fun _ _ h hr hs hf he => step_of_record h hr hs hf he,
    fun old _ _ hs hf he hr => fetchLane_of_record old hs hf he hr⟩

end Sys2Proof.Machine
end

section
/-!
SUPPORT. The fetch group (44_fetch_branch_resolution.md R167 to R172): the lanes while Fetch is
blocked, in closed form, and how many records the lanes of a tick pull.
-/

namespace Sys2Proof.Machine

variable {s t : State}

/-! A blocked group. -/

/-- What a lane of a blocked group holds: the slot it had where Decode stalls the lane, else a bubble
(44_fetch_branch_resolution.md R161 to R163). -/
def blockedLane (old dec : List Slot) (l : Nat) : Slot :=
  if (slotAt dec l).stall then slotAt old l else bubble

theorem fetchLane_of_blockedLane (old : List Slot) (hb : s.fetchStall = true ∨ s.eosSeen = true) :
    s.fetchLane old = .next (s.fillLane (blockedLane old s.latchId s.lane)) := by
  cases hs : s.laneStalled with
  | true =>
    have hheld : blockedLane old s.latchId s.lane = slotAt old s.lane := if_pos hs
    rw [fetchLane_of_stalled old hs, hheld]
  | false =>
    have hbubble : blockedLane old s.latchId s.lane = bubble := if_neg (Bool.eq_false_iff.mp hs)
    rw [fetchLane_of_blocked old hs hb, hbubble]

/-- While Fetch is blocked, by a misprediction or by the end of the trace, any number of lanes write
the Fetch latch and nothing else. -/
theorem fetchLanes_of_blocked (old : List Slot) (k : Nat)
    (hb : s.fetchStall = true ∨ s.eosSeen = true) :
    fetchLanes old k s =
      .next { s with
        latchFe := s.latchFe ++
          (List.range k).map fun j => blockedLane old s.latchId (s.lane + j) } := by
  induction k generalizing s with
  | zero => simp [fetchLanes]
  | succ k ih =>
    rw [fetchLanes, fetchLane_of_blockedLane old hb]
    refine (ih (s := s.fillLane _) hb).trans ?_
    simp [State.fillLane, State.lane, List.range_succ_eq_map, Nat.add_assoc, Nat.add_comm 1]

/-- Settles O24: a fetch-stall blocks every lane. -/
theorem fetchStallBlocksTheRestOfTheGroup : Obligations.FetchStallBlocksTheRestOfTheGroup :=
  fun old k _ hstall => fetchLanes_of_blocked old k (.inl hstall)

/-- The state after a tick whose Fetch is blocked in every lane. -/
def State.blockedTick (s : State) : State :=
  { s.fetchStart with
    latchFe := (List.range s.cfg.n).map fun l => blockedLane s.latchFe s.newId l }

theorem tick_of_blocked (hb : s.fetchStart.fetchStall = true ∨ s.fetchStart.eosSeen = true) :
    s.tick = .next s.blockedTick := by
  rw [s.tick_eq, fetchLanes_of_blocked s.latchFe s.cfg.n hb]
  simp [State.blockedTick]

theorem blockedTick_latchFe_getElem? {l : Nat} (hl : l < s.cfg.n) :
    s.blockedTick.latchFe[l]? = some (blockedLane s.latchFe s.newId l) := by
  simp [State.blockedTick, hl]

/-- In a blocked tick a lane keeps its old slot or gets a bubble, by the new stall flag. -/
theorem blockedTick_lane {l : Nat} {x : Slot} (hfe : s.latchFe.length = s.cfg.n)
    (hx : s.newId[l]? = some x) :
    s.blockedTick.latchFe[l]? = if x.stall then s.latchFe[l]? else some bubble := by
  have hl : l < s.latchFe.length := newId_length s ▸ (List.getElem?_eq_some_iff.mp hx).1
  have hdec : slotAt s.newId l = x := by rw [slotAt, List.getD_eq_getElem?_getD, hx]; rfl
  have hold : s.latchFe[l]? = some (slotAt s.latchFe l) := by
    rw [slotAt, List.getD_eq_getElem _ _ hl, List.getElem?_eq_getElem hl]
  rw [blockedTick_latchFe_getElem? (hfe ▸ hl), blockedLane, hdec, hold]
  split <;> rfl

/-! The misprediction window (44_fetch_branch_resolution.md R168). -/

theorem mispredRetires_eq_false {latch : List Slot}
    (h : ∀ x ∈ latch, x.valid = true → x.isMispred = false) : mispredRetires latch = false :=
  List.any_eq_false.mpr fun x hx => by
    rw [Bool.and_eq_true]
    rintro ⟨hv, hm⟩
    exact Bool.false_ne_true ((h x hx hv).symm.trans hm)

theorem mispredRetires_eq_true {latch : List Slot}
    (h : ∃ x ∈ latch, x.valid = true ∧ x.isMispred = true) : mispredRetires latch = true := by
  obtain ⟨x, hx, hv, hm⟩ := h
  exact List.any_eq_true.mpr ⟨x, hx, by rw [hv, hm]; rfl⟩

/-- The lanes of Fetch never move the cursor back (20_memory.md R42). -/
theorem fetchLanes_tsPos_le {old : List Slot} {k : Nat} (h : fetchLanes old k s = .next t) :
    s.tsPos ≤ t.tsPos :=
  fetchLanes_induction (R := fun u v => u.tsPos ≤ v.tsPos) (fun _ => le_refl _) le_trans
    (fun hlane => by rcases fetchLane_tsPos hlane with hpos | hpos <;> omega) h

/-- A tick whose lane 0 pulls a record moves the cursor on. -/
theorem tsPos_lt_of_record {i : Instr} (h : Ticking s) (hr : s.nextResponse = .record i)
    (hs : s.fetchStart.laneStalled = false) (hf : s.beforeFetch.fetchStall = false)
    (he : s.eosSeen = false) : ∃ t, step s = .next t ∧ s.tsPos < t.tsPos := by
  obtain ⟨u, m, hexec, -, hpos, -⟩ := exec_spec i s.fetchStart.advance
  obtain ⟨t, xs, ht, -⟩ := fetchLanes_spec s.latchFe (s.cfg.n - 1) u
  refine ⟨t, ?_, ?_⟩
  · rw [step_of_record h hr hs hf he, hexec]
    exact ht
  · have hle := fetchLanes_tsPos_le ht
    rw [hpos, State.advance_tsPos, State.firstLane_tsPos, State.beforeFetch_tsPos] at hle
    exact hle

/-- Settles O25: without a marked branch in Memory the fetch-stall stands through Write-Back and blocks
the tick; with one, Write-Back clears it before lane 0. -/
theorem nothingIsFetchedInTheMispredictionWindow :
    Obligations.NothingIsFetchedInTheMispredictionWindow := by
  refine ⟨fun s h hfe hstall hnone => ?_, fun s i h hmarked he hr hs => ?_⟩
  · obtain ⟨hn, hrst, hh⟩ := h
    have hstays : s.beforeFetch.fetchStall = true := by
      rw [s.beforeFetch_fetchStall, hstall, mispredRetires_eq_false hnone]
      rfl
    refine ⟨s.blockedTick, (step_of_tick hn hrst hh).trans (tick_of_blocked (.inl hstays)), hstays,
      s.beforeFetch_tsPos, s.beforeFetch_opidCtr, s.beforeFetch_eosSeen, s.beforeFetch_pht,
      s.beforeFetch_ghr, s.beforeFetch_statBranches, s.beforeFetch_statMispred, fun l x hx => ?_⟩
    exact blockedTick_lane hfe (s.beforeFetch_latchId ▸ hx)
  · have hclear : s.beforeFetch.fetchStall = false := by
      rw [s.beforeFetch_fetchStall, mispredRetires_eq_true hmarked, Bool.not_true, Bool.and_false]
    exact tsPos_lt_of_record h hr hs hclear he

/-! The records pulled in a tick (44_fetch_branch_resolution.md R171, R172). -/

/-- From `c` to `d` the cursor and `opid_ctr` advance by `p`. -/
structure Pulls (p : Nat) (c d : ChainState) : Prop where
  tsPos : d.tsPos = c.tsPos + p
  opidCtr : d.opidCtr = c.opidCtr + p

theorem Pulls.refl (c : ChainState) : Pulls 0 c c := ⟨rfl, rfl⟩

theorem Pulls.trans {p q : Nat} {c d e : ChainState} (h : Pulls p c d) (k : Pulls q d e) :
    Pulls (p + q) c e :=
  ⟨by rw [k.tsPos, h.tsPos, Nat.add_assoc], by rw [k.opidCtr, h.opidCtr, Nat.add_assoc]⟩

theorem chainRecord_pulls (policy : Policy) (i : Instr) (c : ChainState) :
    Pulls 1 c (chainRecord policy i c).2 := by
  unfold chainRecord
  split <;> exact ⟨rfl, rfl⟩

/-- A lane pulls at most one record, and none when Decode stalls it. -/
theorem chainLane_pulls (policy : Policy) (responses : List ResponseWord) (x : Slot)
    (stalled : Bool) (c : ChainState) :
    ∃ p, Pulls p c (chainLane policy responses x stalled c).2 ∧ p ≤ [stalled].count false := by
  unfold chainLane
  cases stalled with
  | true => exact ⟨0, .refl c, Nat.zero_le _⟩
  | false =>
    rw [if_neg Bool.false_ne_true]
    split
    · exact ⟨0, .refl c, Nat.zero_le _⟩
    · cases responseAt responses c.tsPos with
      | record i => exact ⟨1, chainRecord_pulls policy i c, le_refl _⟩
      | endOfStream | malformed => exact ⟨0, ⟨rfl, rfl⟩, Nat.zero_le _⟩

/-- `FetchChain` pulls at most one record a lane that is not stalled. -/
theorem fetchChain_pulls (policy : Policy) (responses : List ResponseWord) :
    ∀ (xs : List Slot) (flags : List Bool) (c : ChainState),
      ∃ p, Pulls p c (fetchChain policy responses xs flags c).2 ∧ p ≤ flags.count false
  | [], flags, c => ⟨0, .refl c, Nat.zero_le _⟩
  | _ :: _, [], c => ⟨0, .refl c, Nat.zero_le _⟩
  | x :: xs, b :: flags, c => by
    obtain ⟨p, hp, hple⟩ := chainLane_pulls policy responses x b c
    obtain ⟨q, hq, hqle⟩ :=
      fetchChain_pulls policy responses xs flags (chainLane policy responses x b c).2
    refine ⟨p + q, hp.trans hq, ?_⟩
    rw [← List.singleton_append, List.count_append]
    exact Nat.add_le_add hple hqle

theorem tsPop_of_step (h : step s = .next t) : s.tsPop = t.tsPos - s.tsPos := by
  have hedge : s.edge = .next t := h
  rw [State.tsPop, hedge]

theorem count_false_map_stall (latch : List Slot) :
    (latch.map fun d => d.stall).count false = (latch.filter fun (x : Slot) => !x.stall).length := by
  rw [List.count, List.countP_map, List.countP_eq_length_filter]
  congr 2
  funext d
  cases hd : d.stall <;> simp [hd]

/-- Settles O26, from the register-transfer form: the consumed count is what `FetchChain` pulls. -/
theorem pulledRecordsFitTheFreeLanes : Obligations.PulledRecordsFitTheFreeLanes := by
  intro s h hfe
  have hstep := tickIsTheRegisterTransferForm s h hfe
  obtain ⟨p, hp, hple⟩ := fetchChain_pulls s.cfg.policy s.trace s.latchFe
    (s.newId.map fun d => d.stall) s.chainStart
  have hpos : s.rtlTick.tsPos = s.tsPos + p :=
    (congrArg ChainState.tsPos s.rtlTick_chain).trans hp.tsPos
  have hctr : s.rtlTick.opidCtr = s.opidCtr + p :=
    (congrArg ChainState.opidCtr s.rtlTick_chain).trans hp.opidCtr
  have hpop : s.tsPop = p := by
    rw [tsPop_of_step hstep, hpos, Nat.add_sub_cancel_left]
  rw [count_false_map_stall] at hple
  refine ⟨s.rtlTick, hstep, by rw [hpos, hpop], by rw [hctr, hpop], hpop ▸ hple, ?_⟩
  calc s.tsPop ≤ (s.newId.filter fun (x : Slot) => !x.stall).length := hpop ▸ hple
    _ ≤ s.newId.length := List.length_filter_le _ _
    _ = s.cfg.n := (newId_length s).trans hfe

end Sys2Proof.Machine
end

section
/-!
SUPPORT. The drain after the end of the trace (44_fetch_branch_resolution.md R169, 60_exceptions.md
R183): no tick fetches, the youngest instruction halts the block, and a measure of the work left falls
in every tick.
-/

namespace Sys2Proof.Machine

variable {s : State}

/-! The youngest instruction carries the halt id. -/

/-- The instructions in flight have all the `op_id`s above the retired ones: there are as many, and they
are distinct. -/
theorem exists_opId_eq_opidCtr (hcore : PipelineCore s) (hne : s.inFlight ≠ []) :
    ∃ x ∈ s.inFlight, x.opId = s.opidCtr := by
  obtain ⟨hnodup, -, -, -, -, hbound⟩ := hcore.order
  obtain ⟨hsum, -⟩ := hcore.counts
  have hpos := List.length_pos_iff.mpr hne
  have hsub : (s.inFlight.map fun x => x.opId).toFinset ⊆ Finset.Ioc s.statRetired s.opidCtr :=
    fun n hn => by
      obtain ⟨x, hx, rfl⟩ := List.mem_map.mp (List.mem_toFinset.mp hn)
      exact Finset.mem_Ioc.mpr (hbound x hx)
  have hall : (s.inFlight.map fun x => x.opId).toFinset = Finset.Ioc s.statRetired s.opidCtr := by
    refine Finset.eq_of_subset_of_card_le hsub ?_
    rw [Nat.card_Ioc, List.toFinset_card_of_nodup hnodup, List.length_map]
    omega
  have hlast : s.opidCtr ∈ Finset.Ioc s.statRetired s.opidCtr :=
    Finset.mem_Ioc.mpr ⟨by omega, le_refl _⟩
  rw [← hall] at hlast
  exact List.mem_map.mp (List.mem_toFinset.mp hlast)

/-- Once the end is recorded, a tick that empties the pipeline retires the youngest instruction and so
halts. -/
theorem inFlight_fetchStart_ne_nil (hshape : LatchShape s) (hcore : PipelineCore s)
    (heos : s.eosSeen = true) (hne : s.inFlight ≠ []) (hh : s.fetchStart.halt = false) :
    s.fetchStart.inFlight ≠ [] := by
  obtain ⟨hmark, hlast, -⟩ := hcore.ending
  obtain ⟨x, hx, hid⟩ := exists_opId_eq_opidCtr hcore hne
  rw [s.inFlight_eq, List.mem_append] at hx
  rcases hx with hx | hx
  · obtain ⟨hx, hv⟩ := mem_validSlots.mp hx
    have hretires : opIdRetires s.latchMa s.haltId = true :=
      opIdRetires_iff.mpr ⟨x, hx, hv, hid.trans (hlast heos).symm⟩
    rw [State.firstLane_halt, s.beforeFetch_halt, hmark, heos, hretires] at hh
    simp at hh
  · obtain ⟨y, hy, -⟩ := exists_fetchStart_of_mem_behindMemory hshape hcore hx
    exact List.ne_nil_of_mem hy

/-! A tick that fetches nothing. -/

/-- What a held lane keeps of its Decode slot. -/
def heldSlot (d : Slot) : Slot := if d.stall then clearStall d else bubble

/-- In a blocked tick the new Fetch latch holds what Decode stalls, at its lane, and nothing else
(10_state.md R25 item 6). -/
theorem blockedTick_latchFe (hmarks : SlotMarks s) (hfe : s.latchFe.length = s.cfg.n) :
    s.blockedTick.latchFe = s.newId.map heldSlot := by
  refine List.ext_getElem (by simp [State.blockedTick, newId_length, hfe]) fun l hl hl' => ?_
  have hdec : slotAt s.newId l = s.newId[l]'(by simpa using hl') := by
    rw [slotAt, List.getD_eq_getElem]
  simp only [State.blockedTick, List.getElem_map, List.getElem_range, blockedLane, heldSlot, ← hdec]
  cases hs : (slotAt s.newId l).stall with
  | true => simpa using slotAt_latchFe_of_newId_stall hmarks hs
  | false => rfl

/-- Every valid Decode slot is held in Fetch or released to Execute, never both
(43_hazard_detector.md R143, 42_pipeline_tick.md R116). -/
theorem length_validSlots_map_heldSlot (dec : List Slot) :
    (validSlots (dec.map heldSlot)).length + (validSlots (dec.map executeSlot)).length =
      (validSlots dec).length := by
  induction dec with
  | nil => rfl
  | cons d dec ih =>
    rw [List.map_cons, List.map_cons, validSlots_cons (heldSlot d), validSlots_cons (executeSlot d),
      validSlots_cons d, List.length_append, List.length_append, List.length_append, ← ih]
    have hone : (validSlots [heldSlot d]).length + (validSlots [executeSlot d]).length =
        (validSlots [d]).length := by
      cases hs : d.stall <;> cases hv : d.valid <;>
        simp [validSlots, heldSlot, executeSlot, hs, hv, bubble]
    omega

theorem length_validSlots_newId (s : State) :
    (validSlots s.newId).length = (validSlots s.latchFe).length := by
  have h := congrArg (fun l => (validSlots l).length) (clearStall_newId s)
  simpa [validSlots_map_clearStall] using h

/-- In a blocked tick every instruction of the Fetch latch is held there or leaves Decode next. -/
theorem length_held_add_released (hmarks : SlotMarks s) (hfe : s.latchFe.length = s.cfg.n) :
    (validSlots s.blockedTick.latchFe).length + (validSlots (s.newId.map executeSlot)).length =
      (validSlots s.latchFe).length := by
  rw [blockedTick_latchFe hmarks hfe, length_validSlots_map_heldSlot, length_validSlots_newId]

/-- With Execute and Memory empty the oldest instruction in Decode is released
(70_reset_and_hazards.md R208). -/
theorem released_ne_nil_of_empty (hex : validSlots (s.latchId.map executeSlot) = [])
    (hma : validSlots s.latchEx = []) (hfe : validSlots s.latchFe ≠ []) :
    validSlots (s.newId.map executeSlot) ≠ [] := by
  have hcopy : validSlots (decodeCopy s.latchFe) ≠ [] := by
    have hmap : decodeCopy s.latchFe = s.latchFe.map clearStall := rfl
    rw [hmap, validSlots_map_clearStall]
    exact fun h => hfe (List.map_eq_nil_iff.mp h)
  obtain ⟨c, hc⟩ : ∃ c, c ∈ (validSlots (decodeCopy s.latchFe)).argmin fun x => x.opId := by
    exact Option.ne_none_iff_exists'.mp fun h => hcopy (List.argmin_eq_none.mp h)
  obtain ⟨hmem, hv⟩ := mem_validSlots.mp (List.argmin_mem hc)
  have hfree : stallOf s.cfg (decodeCopy s.latchFe) (s.latchId.map executeSlot) s.latchEx c = false :=
    stallOf_of_oldest (fun p hp hpv => List.le_of_mem_argmin (mem_validSlots.mpr ⟨hp, hpv⟩) hc)
      hex hma
  exact List.ne_nil_of_mem (mem_released.mpr ⟨_, mem_decodeLatch.mpr ⟨c, hmem, rfl⟩, hv, hfree, rfl⟩)

/-- While something stays in flight, a tick after which Decode has nothing to release leaves Execute or
Memory occupied. -/
theorem released_or_executing_of_inFlight (hne : s.fetchStart.inFlight ≠ [])
    (hnew : validSlots (s.newId.map executeSlot) = []) :
    validSlots (s.latchId.map executeSlot) ≠ [] ∨ validSlots s.latchEx ≠ [] := by
  by_contra hnone
  rw [not_or, not_ne_iff, not_ne_iff] at hnone
  obtain ⟨hr, hm⟩ := hnone
  have hempty : validSlots s.latchFe = [] :=
    not_ne_iff.mp fun h => released_ne_nil_of_empty hr hm h hnew
  have hdec : validSlots s.newId = [] := List.length_eq_zero_iff.mp
    ((length_validSlots_newId s).trans (congrArg List.length hempty))
  rw [inFlight_fetchStart, hr, hm, hdec] at hne
  exact hne rfl

/-! The measure. -/

/-- A bound on the ticks to the halt: three for every instruction of the Fetch latch, each of which waits
in Decode for at most those before it to pass Execute and Memory, and the ticks until the ones already
past Fetch have retired. -/
def drainTicks (s : State) : Nat :=
  3 * (validSlots s.latchFe).length +
    if validSlots (s.latchId.map executeSlot) ≠ [] then 3
    else if validSlots s.latchEx ≠ [] then 2
    else 1

theorem drainTicks_pos (s : State) : 0 < drainTicks s := by
  unfold drainTicks
  split_ifs <;> omega

theorem drainTicks_le (hfe : s.latchFe.length = s.cfg.n) : drainTicks s ≤ 3 * s.cfg.n + 3 := by
  have hlen : (validSlots s.latchFe).length ≤ s.cfg.n := hfe ▸ List.length_filter_le _ _
  unfold drainTicks
  split_ifs <;> omega

/-- A blocked tick that leaves something in flight has less work left: it releases an instruction from
Decode, or those before it move on; with Execute and Memory empty it must release one. -/
theorem drainTicks_blockedTick_lt (hmarks : SlotMarks s) (hfe : s.latchFe.length = s.cfg.n)
    (hne : s.fetchStart.inFlight ≠ []) : drainTicks s.blockedTick < drainTicks s := by
  have hid : s.blockedTick.latchId = s.newId := s.beforeFetch_latchId
  have hex : s.blockedTick.latchEx = s.latchId.map executeSlot := s.beforeFetch_latchEx
  have hlen := length_held_add_released hmarks hfe
  unfold drainTicks
  rw [hid, hex]
  by_cases hnew : validSlots (s.newId.map executeSlot) = []
  · rw [hnew, List.length_nil] at hlen
    have hstays := released_or_executing_of_inFlight hne hnew
    rw [if_neg (not_ne_iff.mpr hnew)]
    split_ifs with hr hm
    · omega
    · omega
    · exact (hstays.elim hr hm).elim
  · have hpos := List.length_pos_iff.mpr hnew
    rw [if_pos hnew]
    split_ifs <;> omega

/-- A blocked tick keeps in flight what Fetch starts from: both states count the same retired and given
`op_id`s. -/
theorem inFlight_blockedTick_ne_nil (hshape : LatchShape s) (hcore : PipelineCore s)
    (hh : s.halt = false) (hinv : PipelineInv s.blockedTick) (hne : s.fetchStart.inFlight ≠ []) :
    s.blockedTick.inFlight ≠ [] := by
  obtain ⟨-, hcore'⟩ := pipelineInv_iff.mp hinv
  obtain ⟨hsum, -⟩ := (pipelineCore_fetchStart hshape hcore hh).counts
  obtain ⟨hsum', -⟩ := hcore'.counts
  have hret : s.blockedTick.statRetired = s.fetchStart.statRetired := rfl
  have hctr : s.blockedTick.opidCtr = s.fetchStart.opidCtr := rfl
  have hpos := List.length_pos_iff.mpr hne
  exact List.length_pos_iff.mp (by omega)

/-! The run. -/

/-- The end is recorded and something is in flight, in a run that has not halted. -/
structure Draining (s : State) : Prop where
  inv : PipelineInv s
  rst : s.rst = false
  halt : s.halt = false
  eosSeen : s.eosSeen = true
  inFlight : s.inFlight ≠ []

/-- Every tick of the drain halts the block or leaves less work. -/
theorem draining_step (h : Draining s) :
    ∃ t, step s = .next t ∧ (t.halt = true ∨ Draining t ∧ drainTicks t < drainTicks s) := by
  obtain ⟨hshape, hcore⟩ := pipelineInv_iff.mp h.inv
  have ⟨hn, hfe, _⟩ := hshape
  have heos : s.fetchStart.eosSeen = true := s.beforeFetch_eosSeen.trans h.eosSeen
  have htick : s.tick = .next s.blockedTick := tick_of_blocked (.inr heos)
  refine ⟨s.blockedTick, (step_of_tick hn h.rst h.halt).trans htick, ?_⟩
  cases hh : s.blockedTick.halt with
  | true => exact .inl rfl
  | false =>
    have hstart : s.fetchStart.inFlight ≠ [] :=
      inFlight_fetchStart_ne_nil hshape hcore h.eosSeen h.inFlight hh
    have hinv : PipelineInv s.blockedTick := pipelineInv_tick h.inv h.halt htick
    exact .inr ⟨⟨hinv, s.beforeFetch_rst.trans h.rst, hh, heos,
      inFlight_blockedTick_ne_nil hshape hcore h.halt hinv hstart⟩,
      drainTicks_blockedTick_lt hcore.marks hfe hstart⟩

/-- The drain halts within its measure. -/
theorem draining_halts : ∀ {k : Nat} {s : State}, Draining s → drainTicks s ≤ k →
    ∃ j t, j ≤ k ∧ Sys2Proof.core.run j s = .next t ∧ t.halt = true
  | 0, s, _, hle => absurd hle (Nat.not_le_of_lt (drainTicks_pos s))
  | k + 1, s, h, hle => by
    obtain ⟨u, hu, hhalt | ⟨hdrain, hlt⟩⟩ := draining_step h
    · exact ⟨1, u, Nat.succ_le_succ (Nat.zero_le k), run_succ_of_step 0 hu, hhalt⟩
    · obtain ⟨j, t, hj, ht, hhalt⟩ := draining_halts (k := k) hdrain (by omega)
      exact ⟨j + 1, t, Nat.succ_le_succ hj, (run_succ_of_step j hu).trans ht, hhalt⟩

/-- Settles O54: the measure is at most 3N + 3. -/
theorem recordedEndDrainsToHalt : Obligations.RecordedEndDrainsToHalt := by
  intro s hinv hr hh heos hne
  have ⟨⟨_, hfe, _⟩, _⟩ := hinv
  have hle := drainTicks_le hfe
  exact draining_halts ⟨hinv, hr, hh, heos, hne⟩ (by omega)

end Sys2Proof.Machine
end

section
/-!
SUPPORT. The one exception and the end of the trace (60_exceptions.md R181, R187, R188): the error and
end bits over a lane, a tick and an edge, and the tick that takes MalformedRecord.
-/

namespace Sys2Proof.Machine

variable {s t : State}

/-! The sticky bits. -/

/-- From `s` to `t` the error and end bits stay set, and nothing was attempted if the end was already
recorded (60_exceptions.md R188). -/
structure KeepsEnd (s t : State) : Prop where
  fatalError : s.fatalError = true → t.fatalError = true
  eosSeen : s.eosSeen = true → t.eosSeen = true
  haltIdValid : s.haltIdValid = true → t.haltIdValid = true
  halt : s.halt = true → t.halt = true
  noAttempt : s.eosSeen = true →
    t.tsPos = s.tsPos ∧ t.haltId = s.haltId ∧ t.fatalError = s.fatalError

theorem KeepsEnd.refl (s : State) : KeepsEnd s s :=
  ⟨id, id, id, id, fun _ => ⟨rfl, rfl, rfl⟩⟩

theorem KeepsEnd.trans {s t u : State} (h : KeepsEnd s t) (k : KeepsEnd t u) : KeepsEnd s u where
  fatalError := k.fatalError ∘ h.fatalError
  eosSeen := k.eosSeen ∘ h.eosSeen
  haltIdValid := k.haltIdValid ∘ h.haltIdValid
  halt := k.halt ∘ h.halt
  noAttempt he := by
    obtain ⟨hpos, hid, hfatal⟩ := h.noAttempt he
    obtain ⟨hpos', hid', hfatal'⟩ := k.noAttempt (h.eosSeen he)
    exact ⟨hpos'.trans hpos, hid'.trans hid, hfatal'.trans hfatal⟩

/-- A lane sets the bits or leaves them, and only an attempt, made before the end is recorded, moves the
cursor, the halt id or `fatal_error` (44_fetch_branch_resolution.md R161 to R164). -/
theorem fetchLane_keepsEnd {old : List Slot} (h : s.fetchLane old = .next t) : KeepsEnd s t := by
  have hfill : ∀ x : Slot, KeepsEnd s (s.fillLane x) := fun _ =>
    ⟨id, id, id, id, fun _ => ⟨rfl, rfl, rfl⟩⟩
  rcases s.fetchLane_cases old with
    ⟨-, hlane⟩ | ⟨-, -, hlane⟩ | ⟨-, -, he, ⟨i, -, hlane⟩ | ⟨-, hlane⟩ | ⟨-, hlane⟩⟩
  · cases hlane.symm.trans h
    exact hfill _
  · cases hlane.symm.trans h
    exact hfill bubble
  · obtain ⟨u, m, hexec, hframe, -, -, -, -, heos, -, hidv, hfatal⟩ := exec_spec i s.advance
    cases (hlane.trans hexec).symm.trans h
    exact ⟨hfatal.trans, heos.trans, hidv.trans, hframe.halt.trans,
      fun hend => absurd hend (ne_true_of_eq_false he)⟩
  · cases hlane.symm.trans h
    exact ⟨id, fun _ => rfl, fun _ => rfl, id, fun hend => absurd hend (ne_true_of_eq_false he)⟩
  · cases hlane.symm.trans h
    exact ⟨fun _ => rfl, fun _ => rfl, fun _ => rfl, id,
      fun hend => absurd hend (ne_true_of_eq_false he)⟩

/-- The stages before Fetch write none of these but `halt`, which Write-Back only sets
(42_pipeline_tick.md R114). -/
theorem fetchStart_keepsEnd (s : State) : KeepsEnd s s.fetchStart where
  fatalError := s.beforeFetch_fatalError.trans
  eosSeen := s.beforeFetch_eosSeen.trans
  haltIdValid := s.beforeFetch_haltIdValid.trans
  halt hh := by rw [State.firstLane_halt, s.beforeFetch_halt, hh, Bool.true_or]
  noAttempt _ := ⟨s.beforeFetch_tsPos, s.beforeFetch_haltId, s.beforeFetch_fatalError⟩

theorem tick_keepsEnd (h : s.tick = .next t) : KeepsEnd s t :=
  (fetchStart_keepsEnd s).trans
    (fetchLanes_induction KeepsEnd.refl KeepsEnd.trans fetchLane_keepsEnd (s.tick_eq.symm.trans h))

/-- Out of reset an edge is a hold or a tick, and keeps the bits. -/
theorem step_keepsEnd (hr : s.rst = false) (h : step s = .next t) : KeepsEnd s t := by
  obtain ⟨-, ⟨hreset, -⟩ | ⟨-, -, rfl⟩ | ⟨-, -, htick⟩⟩ := State.edge_cases h
  · exact absurd hreset (ne_true_of_eq_false hr)
  · exact .refl _
  · exact tick_keepsEnd htick

/-- Settles O15: an edge out of reset keeps the bits, and a reset edge gives the reset state. -/
theorem errorAndEndBitsAreSticky : Obligations.ErrorAndEndBitsAreSticky := by
  refine fun s hn => ⟨fun hr => ?_, fun hr =>
    ⟨s.resetEdge, step_of_reset hn hr, rfl, rfl, rfl, rfl⟩⟩
  obtain ⟨t, hstep, -⟩ := exists_step hn
  have hkeeps := step_keepsEnd hr hstep
  exact ⟨t, hstep, hkeeps.fatalError, hkeeps.eosSeen, hkeeps.haltIdValid, hkeeps.halt,
    hkeeps.noAttempt⟩

/-! MalformedRecord. -/

/-- The state after a tick whose lane 0 takes MalformedRecord: the error and the end are recorded, lane 0
gets a bubble, and the end blocks the lanes behind it (60_exceptions.md R181). -/
def State.malformedTick (s : State) : State :=
  { s.fetchStart.raiseMalformed with
    latchFe := bubble ::
      (List.range (s.cfg.n - 1)).map fun j => blockedLane s.latchFe s.newId (j + 1) }

/-- A tick whose lane 0 makes an attempt and meets a malformed response goes on to the end of the group:
no control transfer (60_exceptions.md R187). -/
theorem step_of_malformed (h : Ticking s) (hr : s.nextResponse = .malformed)
    (hs : s.fetchStart.laneStalled = false) (hf : s.beforeFetch.fetchStall = false)
    (he : s.eosSeen = false) : step s = .next s.malformedTick := by
  obtain ⟨hn, hrst, hh⟩ := h
  have hnext : s.fetchStart.nextResponse = .malformed := by
    simpa [State.nextResponse] using hr
  have hlane : s.fetchStart.fetchLane s.latchFe =
      .next (s.fetchStart.raiseMalformed.fillLane bubble) :=
    (fetchLane_of_free s.latchFe hs hf (s.beforeFetch_eosSeen.trans he)).trans
      (fetchAttempt_of_malformed hnext)
  rw [step_of_tick hn hrst hh, s.tick_eq, fetchLanes_of_pos s.latchFe hn, hlane]
  refine (fetchLanes_of_blocked s.latchFe (s.cfg.n - 1) (.inr rfl)).trans ?_
  simp [State.malformedTick, State.fillLane, State.lane, State.raiseMalformed, State.recordEnd,
    Nat.add_comm 1]

/-- Settles O23. -/
theorem malformedRecordIsTakenByTheTick : Obligations.MalformedRecordIsTakenByTheTick :=
  fun s h hr hs hf he =>
    ⟨s.malformedTick, step_of_malformed h hr hs hf he, rfl, rfl, rfl, s.beforeFetch_opidCtr,
      s.beforeFetch_opidCtr, s.beforeFetch_tsPos, s.beforeFetch_latchMa, s.beforeFetch_latchEx, rfl⟩

end Sys2Proof.Machine
end

section
/-!
SUPPORT. Reset, and no deadlock in Decode (70_reset_and_hazards.md R200, R208): while the oldest
instruction of Decode is stalled nothing enters Execute, so two such ticks leave it nothing to wait
for.
-/

namespace Sys2Proof.Machine

variable {s t : State}

/-- Settles O10. -/
theorem resetEdgeGivesTheResetState : Obligations.ResetEdgeGivesTheResetState := by
  intro s hn hr
  obtain ⟨hcount, -⟩ := everyTickCountsOneCycle
  refine ⟨?_, hcount _ (resetWith_ticking s.trace hn)⟩
  rw [step_of_reset hn hr, State.resetEdge, hr]

/-! The oldest instruction of Decode. -/

/-- While the oldest instruction of Decode is stalled, the stalls are in order, so Decode releases
nothing (43_hazard_detector.md R138). -/
theorem released_eq_nil_of_oldestStalls (hcore : PipelineCore s) (h : OldestInDecodeStalls s) :
    validSlots (s.latchId.map executeSlot) = [] := by
  obtain ⟨c, hc, hcv, hcs, holdest⟩ := h
  refine List.eq_nil_iff_forall_not_mem.mpr fun y hy => ?_
  obtain ⟨d, hd, hdv, hds, -⟩ := mem_released.mp hy
  have hlt := released_older_than_stalled hcore hd hc hdv hcv hds hcs
  exact absurd (holdest d hd hdv) (Nat.not_le_of_lt hlt)

/-- With Execute and Memory empty, Decode does not stall its oldest instruction. -/
theorem decodeLatch_oldest_stall {cfg : Config} {dec ex ma : List Slot} {c : Slot}
    (hex : validSlots ex = []) (hma : validSlots ma = []) (hc : c ∈ decodeLatch cfg dec ex ma)
    (holdest : ∀ d ∈ decodeLatch cfg dec ex ma, d.valid = true → c.opId ≤ d.opId) :
    c.stall = false := by
  obtain ⟨e, -, rfl⟩ := mem_decodeLatch.mp hc
  refine stallOf_of_oldest (c := e) (fun p hp hv => ?_) hex hma
  exact holdest { p with stall := stallOf cfg dec ex ma p } (mem_decodeLatch.mpr ⟨p, hp, rfl⟩) hv

/-- A step between two states whose Decode stalls an instruction is a tick: the reset state and a halted
one hold no instruction. -/
theorem fetchFrame_of_oldestStalls (hinv : PipelineInv s) (hs : OldestInDecodeStalls s)
    (hstep : step s = .next t) (ht : OldestInDecodeStalls t) : FetchFrame s.beforeFetch t := by
  obtain ⟨-, ⟨-, rfl⟩ | ⟨-, hh, rfl⟩ | ⟨-, -, htick⟩⟩ := State.edge_cases hstep
  · obtain ⟨c, hc, hv, -⟩ := ht
    rw [List.eq_of_mem_replicate hc] at hv
    cases hv
  · obtain ⟨c, hc, hv, -⟩ := hs
    obtain ⟨-, hcore⟩ := pipelineInv_iff.mp hinv
    obtain ⟨hempty, -⟩ := hcore.halted hh
    have hmem : c ∈ t.inFlight := by simp [State.inFlight, mem_validSlots, hc, hv]
    rw [hempty] at hmem
    cases hmem
  · obtain ⟨u, hu, hframe, -⟩ := s.beforeFetch.fetch_spec
    cases hu.symm.trans htick
    exact hframe

/-- Settles O53: two ticks without a release empty Execute and then Memory, and Decode of the third finds
no producer there. -/
theorem oldestInDecodeIsSoonReleased : Obligations.OldestInDecodeIsSoonReleased := by
  intro s t u hinv hst htu hs ht hu
  obtain ⟨t', hst', hinvt⟩ := stepKeepsThePipelineInvariant s hinv
  cases hst'.symm.trans hst
  have hframe := fetchFrame_of_oldestStalls hinv hs hst ht
  have hframe' := fetchFrame_of_oldestStalls hinvt ht htu hu
  obtain ⟨-, hcore⟩ := pipelineInv_iff.mp hinv
  obtain ⟨-, hcoret⟩ := pipelineInv_iff.mp hinvt
  have hma : validSlots t.latchEx = [] := by
    rw [hframe.latchEx, s.beforeFetch_latchEx]
    exact released_eq_nil_of_oldestStalls hcore hs
  have hex := released_eq_nil_of_oldestStalls hcoret ht
  obtain ⟨c, hc, -, hstall, holdest⟩ := hu
  rw [hframe'.latchId, t.beforeFetch_latchId] at hc holdest
  exact Bool.false_ne_true ((decodeLatch_oldest_stall hex hma hc holdest).symm.trans hstall)

end Sys2Proof.Machine
end

section
/-!
SUPPORT. The runs that never halt (70_reset_and_hazards.md R207): the hung block, and the tick that meets
the end of the trace with nothing left behind Memory, which leaves the block hung.
-/

namespace Sys2Proof.Machine

variable {s t : State}

/-! The empty pipeline. -/

theorem pipelineEmpty_iff : PipelineEmpty s ↔
    validSlots s.latchFe = [] ∧ validSlots s.latchId = [] ∧ validSlots s.latchEx = [] ∧
      validSlots s.latchMa = [] := by
  simp only [PipelineEmpty, validSlots, List.filter_eq_nil_iff, List.forall_mem_append, and_assoc,
    Bool.not_eq_true]

theorem validSlots_newId_eq_nil (h : validSlots s.latchFe = []) : validSlots s.newId = [] :=
  List.length_eq_zero_iff.mp ((length_validSlots_newId s).trans (congrArg List.length h))

theorem released_eq_nil {dec : List Slot} (h : validSlots dec = []) :
    validSlots (dec.map executeSlot) = [] := by
  refine List.eq_nil_iff_forall_not_mem.mpr fun y hy => ?_
  obtain ⟨d, hd, hv, -⟩ := mem_released.mp hy
  exact List.not_mem_nil (h ▸ mem_validSlots.mpr ⟨hd, hv⟩)

theorem slotAt_valid_eq_false {latch : List Slot} (l : Nat) (h : validSlots latch = []) :
    (slotAt latch l).valid = false := by
  by_cases hl : l < latch.length
  · exact Bool.eq_false_iff.mpr fun hv =>
      List.not_mem_nil (h ▸ mem_validSlots.mpr ⟨slotAt_mem hl, hv⟩)
  · rw [slotAt, List.getD_eq_default _ _ (Nat.le_of_not_lt hl)]
    rfl

/-- A lane of a blocked group holds a slot the Fetch latch had, or a bubble. -/
theorem blockedLane_valid {old : List Slot} (dec : List Slot) (l : Nat)
    (h : validSlots old = []) : (blockedLane old dec l).valid = false := by
  unfold blockedLane
  split
  · exact slotAt_valid_eq_false l h
  · rfl

/-- In a run, what is not in flight is nowhere: the Fetch latch holds fresh instructions and copies of
stalled ones (10_state.md R25 item 6). -/
theorem pipelineEmpty_of_inFlight (hinv : PipelineInv s) (h : s.inFlight = []) :
    PipelineEmpty s := by
  obtain ⟨⟨-, hfe, hid, -, -⟩, hcore⟩ := pipelineInv_iff.mp hinv
  have hsplit := h
  simp only [State.inFlight, List.append_eq_nil_iff] at hsplit
  obtain ⟨⟨⟨hma, hex⟩, hdec⟩, hfresh⟩ := hsplit
  refine pipelineEmpty_iff.mpr ⟨List.eq_nil_iff_forall_not_mem.mpr fun f hf => ?_, hdec, hex, hma⟩
  obtain ⟨hf, hv⟩ := mem_validSlots.mp hf
  rcases held_or_fresh hcore hf hv (hid.trans hfe.symm) with ⟨d, hd, -, rfl⟩ | hmem
  · exact List.not_mem_nil (hdec ▸ mem_validSlots.mpr ⟨hd, hv⟩)
  · exact List.not_mem_nil (hfresh ▸ hmem)

/-! The hung block. -/

/-- A tick after the end is recorded fetches nothing, and with the pipeline empty the other stages find
nothing to move or to retire. -/
theorem hung_step (h : Hung s) : step s = .next s.blockedTick ∧ Hung s.blockedTick := by
  obtain ⟨⟨hn, hr, hh⟩, heos, hempty⟩ := h
  obtain ⟨hfe, hid, hex, hma⟩ := pipelineEmpty_iff.mp hempty
  have hend : s.fetchStart.eosSeen = true := s.beforeFetch_eosSeen.trans heos
  refine ⟨(step_of_tick hn hr hh).trans (tick_of_blocked (.inr hend)), ⟨?_, ?_, ?_⟩, hend, ?_⟩
  · exact s.beforeFetch_cfg ▸ hn
  · exact s.beforeFetch_rst.trans hr
  · refine s.beforeFetch_halt.trans ?_
    rw [hh, opIdRetires_eq_false hma, Bool.and_false, Bool.or_false]
  · refine pipelineEmpty_iff.mpr ⟨?_, ?_, ?_, ?_⟩
    · refine List.filter_eq_nil_iff.mpr fun x hx => ?_
      obtain ⟨l, -, rfl⟩ := List.mem_map.mp hx
      rw [blockedLane_valid s.newId l hfe]
      exact Bool.false_ne_true
    · exact s.beforeFetch_latchId ▸ validSlots_newId_eq_nil hfe
    · exact s.beforeFetch_latchEx ▸ released_eq_nil hid
    · exact s.beforeFetch_latchMa ▸ hex

/-- Settles O57. -/
theorem hungBlockOnlyCountsCycles : Obligations.HungBlockOnlyCountsCycles := by
  intro s h
  obtain ⟨hstep, hhung⟩ := hung_step h
  obtain ⟨-, -, hempty⟩ := h
  obtain ⟨-, -, -, hma⟩ := pipelineEmpty_iff.mp hempty
  have hmispred : mispredRetires s.latchMa = false := mispredRetires_eq_false fun x hx hv =>
    (List.not_mem_nil (hma ▸ mem_validSlots.mpr ⟨hx, hv⟩)).elim
  refine ⟨s.blockedTick, hstep, hhung, s.beforeFetch_statCycles, ?_, s.beforeFetch_statBranches,
    s.beforeFetch_statMispred, s.beforeFetch_opidCtr, s.beforeFetch_tsPos, s.beforeFetch_fatalError,
    s.beforeFetch_haltId, ?_, s.beforeFetch_pht, s.beforeFetch_ghr⟩
  · exact s.beforeFetch_statRetired.trans (by rw [hma]; rfl)
  · exact s.beforeFetch_fetchStall.trans (by rw [hmispred, Bool.not_false, Bool.and_true])

/-! The tick that meets the end. -/

/-- From `s` to `t` Fetch met the end of the trace at the cursor of `s` and pulled nothing
(44_fetch_branch_resolution.md R164, 60_exceptions.md R181). -/
structure MeetsEnd (s t : State) : Prop where
  opidCtr : t.opidCtr = s.opidCtr
  eosSeen : t.eosSeen = true
  fatalError : t.fatalError = true ↔ s.fatalError = true ∨ s.nextResponse = .malformed

/-- The first lane records the end, which blocks the lanes behind it. -/
theorem fetchLanes_meetsEnd {old : List Slot} {n : Nat} (hn : 0 < n) (hs : s.laneStalled = false)
    (hf : s.fetchStall = false) (he : s.eosSeen = false) (hr : ∀ i, s.nextResponse ≠ .record i)
    (h : fetchLanes old n s = .next t) : MeetsEnd s t := by
  rw [fetchLanes_of_pos old hn, fetchLane_of_free old hs hf he] at h
  cases hresp : s.nextResponse with
  | record i => exact absurd hresp (hr i)
  | endOfStream =>
    rw [fetchAttempt_of_endOfStream hresp] at h
    cases (fetchLanes_of_blocked old (n - 1) (.inr rfl)).symm.trans h
    exact ⟨rfl, rfl, by simp [hresp]⟩
  | malformed =>
    rw [fetchAttempt_of_malformed hresp] at h
    cases (fetchLanes_of_blocked old (n - 1) (.inr rfl)).symm.trans h
    exact ⟨rfl, rfl, by simp [hresp]⟩

/-- A running state with nothing behind Memory in which the coming tick meets the end: Write-Back leaves
no fetch-stall, the end is not recorded, and the trace has no further record. -/
structure LastRetires (s : State) : Prop where
  inv : PipelineInv s
  ticking : Ticking s
  behind : s.behindMemory = []
  fetchStall : s.beforeFetch.fetchStall = false
  eosSeen : s.eosSeen = false
  noRecord : ∀ i, s.nextResponse ≠ .record i

section
variable (hcore : PipelineCore s)
include hcore

/-- Before the end is recorded no halt id is, so Write-Back does not halt the block
(42_pipeline_tick.md R114). -/
theorem beforeFetch_halt_of_not_ended (he : s.eosSeen = false) : s.beforeFetch.halt = s.halt := by
  obtain ⟨hmark, -⟩ := hcore.ending
  rw [s.beforeFetch_halt, hmark, he, Bool.false_and, Bool.or_false]

theorem inFlight_fetchStart_eq_nil (hshape : LatchShape s) (h : s.behindMemory = []) :
    s.fetchStart.inFlight = [] := by
  have hperm := inFlight_fetchStart_perm hshape hcore
  rw [h] at hperm
  exact List.map_eq_nil_iff.mp (List.perm_nil.mp hperm)

end

/-- No Decode lane stalls in a tick that starts Fetch with nothing in flight. -/
theorem fetchStart_laneStalled_eq_false (h : s.fetchStart.inFlight = []) :
    s.fetchStart.laneStalled = false := by
  simp only [State.inFlight, List.append_eq_nil_iff] at h
  obtain ⟨⟨-, hdec⟩, -⟩ := h
  refine Bool.eq_false_iff.mpr fun hs => Bool.false_ne_true ?_
  exact (slotAt_valid_eq_false _ hdec).symm.trans (stalledLanesValid_fetchStart s _ hs)

/-- With the same counts of retired and of given `op_id`s, what was empty stays empty
(10_state.md R25 item 6). -/
theorem inFlight_eq_nil_of_counts (hs : CountsAgree s) (ht : CountsAgree t)
    (hret : t.statRetired = s.statRetired) (hctr : t.opidCtr = s.opidCtr) (h : s.inFlight = []) :
    t.inFlight = [] := by
  obtain ⟨hsum, -⟩ := hs
  obtain ⟨hsum', -⟩ := ht
  rw [h, List.length_nil] at hsum
  exact List.length_eq_zero_iff.mp (by omega)

/-- The end is met too late: the tick that records it leaves the block hung. -/
theorem LastRetires.step (h : LastRetires s) :
    ∃ t, step s = .next t ∧ Hung t ∧ FetchFrame s.beforeFetch t ∧ MeetsEnd s.fetchStart t := by
  obtain ⟨hshape, hcore⟩ := pipelineInv_iff.mp h.inv
  obtain ⟨hn, -, hh⟩ := h.ticking
  have hempty := inFlight_fetchStart_eq_nil hcore hshape h.behind
  obtain ⟨t, hstep, htick, hframe, -⟩ := step_of_ticking h.ticking
  have hmeets : MeetsEnd s.fetchStart t := fetchLanes_meetsEnd hn
    (fetchStart_laneStalled_eq_false hempty) h.fetchStall (s.beforeFetch_eosSeen.trans h.eosSeen)
    (by simpa [State.nextResponse] using h.noRecord) (s.tick_eq.symm.trans htick)
  have hhalt : t.halt = false :=
    hframe.halt.trans ((beforeFetch_halt_of_not_ended hcore h.eosSeen).trans hh)
  have hinv : PipelineInv t := pipelineInv_tick h.inv hh htick
  obtain ⟨-, hcoret⟩ := pipelineInv_iff.mp hinv
  have hnone : t.inFlight = [] := inFlight_eq_nil_of_counts
    (pipelineCore_fetchStart hshape hcore hh).counts hcoret.counts hframe.statRetired hmeets.opidCtr
    hempty
  exact ⟨t, hstep, ⟨ticking_of_fetchFrame h.ticking hframe hhalt, hmeets.eosSeen,
    pipelineEmpty_of_inFlight hinv hnone⟩, hframe, hmeets⟩

/-! No record before the end (R207 case 1). -/

/-- The reset state meets the end in tick 1 when the first response is no record. -/
theorem lastRetires_resetWith {cfg : Config} {responses : List ResponseWord} (hn : 0 < cfg.n)
    (hr : ∀ i, responseAt responses 0 ≠ .record i) :
    LastRetires (State.resetWith cfg responses) where
  inv := pipelineInv_resetWith responses hn
  ticking := resetWith_ticking responses hn
  behind := by
    have hempty := inFlight_resetWith cfg responses
    rw [State.inFlight_eq, List.append_eq_nil_iff] at hempty
    obtain ⟨-, hbehind⟩ := hempty
    exact hbehind
  fetchStall := by
    rw [State.beforeFetch_fetchStall]
    rfl
  eosSeen := rfl
  noRecord := hr

/-- A hung state after tick `k` of a run over a trace with no record before its end. -/
structure HungFromReset (responses : List ResponseWord) (k : Nat) (s : State) : Prop where
  hung : Hung s
  statCycles : s.statCycles = k
  statRetired : s.statRetired = 0
  opidCtr : s.opidCtr = 0
  fatalError : s.fatalError = true ↔ responseAt responses 0 = .malformed

theorem hungFromReset_tick_one {cfg : Config} {responses : List ResponseWord} (hn : 0 < cfg.n)
    (hr : ∀ i, responseAt responses 0 ≠ .record i) :
    ∃ t, step (State.resetWith cfg responses) = .next t ∧ HungFromReset responses 1 t := by
  obtain ⟨t, hstep, hhung, hframe, hmeets⟩ := (lastRetires_resetWith hn hr).step
  refine ⟨t, hstep, hhung, statCycles_of_fetchFrame hframe, ?_, ?_, ?_⟩
  · have hma : validSlots (State.resetWith cfg responses).latchMa = [] :=
      validSlots_replicate_bubble cfg.n
    rw [hframe.statRetired, State.beforeFetch_statRetired, hma]
    rfl
  · exact hmeets.opidCtr.trans (State.beforeFetch_opidCtr _)
  · have hfatal := hmeets.fatalError
    simp only [State.nextResponse, State.firstLane_fatalError, State.beforeFetch_fatalError,
      State.firstLane_trace, State.beforeFetch_trace, State.firstLane_tsPos,
      State.beforeFetch_tsPos] at hfatal
    exact hfatal.trans (by simp [State.resetWith])

theorem HungFromReset.step {responses : List ResponseWord} {k : Nat}
    (h : HungFromReset responses k s) :
    ∃ t, step s = .next t ∧ HungFromReset responses (k + 1) t := by
  obtain ⟨t, hstep, hhung, hcycles, hret, -, -, hctr, -, hfatal, -⟩ :=
    hungBlockOnlyCountsCycles s h.hung
  exact ⟨t, hstep, hhung, by rw [hcycles, h.statCycles], hret.trans h.statRetired,
    hctr.trans h.opidCtr, by rw [hfatal, h.fatalError]⟩

/-- Settles O55: tick 1 meets the end and leaves the block hung. -/
theorem traceWithoutRecordsNeverHalts : Obligations.TraceWithoutRecordsNeverHalts := by
  intro cfg responses k hn hr
  cases k with
  | zero =>
    exact ⟨State.resetWith cfg responses, rfl, rfl, rfl, rfl, rfl, by simp [State.resetWith]⟩
  | succ k =>
    obtain ⟨u, hstep, hu⟩ := hungFromReset_tick_one (cfg := cfg) hn hr
    obtain ⟨t, hrun, ht⟩ := run_induction_timed (P := fun j => HungFromReset responses (j + 1))
      HungFromReset.step k hu
    obtain ⟨⟨-, -, hhalt⟩, -⟩ := ht.hung
    exact ⟨t, (run_succ_of_step k hstep).trans hrun, hhalt, ht.statCycles, ht.statRetired,
      ht.opidCtr, by simp [ht.fatalError]⟩

/-! A mispredicted last branch (R207 case 2). -/

/-- The mispredicted branch in flight is the youngest instruction: when it retires nothing is left behind
it. -/
theorem behindMemory_eq_nil_of_mispredRetires (hcore : PipelineCore s)
    (hret : mispredRetires s.latchMa = true) : s.behindMemory = [] := by
  obtain ⟨m, hm, hmv⟩ := List.any_eq_true.mp hret
  rw [Bool.and_eq_true] at hmv
  obtain ⟨hv, hmis⟩ := hmv
  have hm' : m ∈ validSlots s.latchMa := mem_validSlots.mpr ⟨hm, hv⟩
  obtain ⟨-, hyoungest⟩ := hcore.branch
  obtain ⟨hid, -⟩ := hyoungest m (s.inFlight_eq ▸ List.mem_append_left _ hm') hmis
  refine List.eq_nil_iff_forall_not_mem.mpr fun x hx => ?_
  have hlt := memory_older hcore hm' hx
  have hle := opId_le_of_mem_inFlight hcore (mem_inFlight_of_mem_behindMemory hx)
  omega

/-- A mispredicted branch is in flight and no record stands behind it in the trace. -/
structure LastBranchInFlight (s : State) : Prop where
  inv : PipelineInv s
  ticking : Ticking s
  eosSeen : s.eosSeen = false
  fetchStall : s.fetchStall = true
  noRecord : ∀ i, s.nextResponse ≠ .record i

/-- Until the branch retires its fetch-stall keeps Fetch from the end; then the end is met too late. -/
theorem LastBranchInFlight.step (h : LastBranchInFlight s) :
    ∃ t, step s = .next t ∧ (LastBranchInFlight t ∨ Hung t) := by
  obtain ⟨-, hcore⟩ := pipelineInv_iff.mp h.inv
  cases hret : mispredRetires s.latchMa with
  | true =>
    have hrelease : s.beforeFetch.fetchStall = false := by
      rw [s.beforeFetch_fetchStall, hret, Bool.not_true, Bool.and_false]
    obtain ⟨t, hstep, hhung, -⟩ := LastRetires.step ⟨h.inv, h.ticking,
      behindMemory_eq_nil_of_mispredRetires hcore hret, hrelease, h.eosSeen, h.noRecord⟩
    exact ⟨t, hstep, .inr hhung⟩
  | false =>
    obtain ⟨hn, hr, hh⟩ := h.ticking
    have hstays : s.beforeFetch.fetchStall = true := by
      rw [s.beforeFetch_fetchStall, h.fetchStall, hret]
      rfl
    have htick : s.tick = .next s.blockedTick := tick_of_blocked (.inl hstays)
    have hhalt : s.blockedTick.halt = false :=
      (beforeFetch_halt_of_not_ended hcore h.eosSeen).trans hh
    have hnext : s.blockedTick.nextResponse = s.nextResponse := by
      simp [State.nextResponse, State.blockedTick]
    refine ⟨s.blockedTick, (step_of_tick hn hr hh).trans htick,
      .inl ⟨?_, ⟨?_, ?_, hhalt⟩, ?_, hstays, fun i => hnext ▸ h.noRecord i⟩⟩
    · exact pipelineInv_tick h.inv hh htick
    · exact s.beforeFetch_cfg ▸ hn
    · exact s.beforeFetch_rst.trans hr
    · exact s.beforeFetch_eosSeen.trans h.eosSeen

/-- Settles O56: the branch stays in flight, or the block is hung. -/
theorem mispredictedLastBranchNeverHalts : Obligations.MispredictedLastBranchNeverHalts := by
  intro s k hinv hr hh heos hstall hnext
  have ⟨⟨hn, _⟩, _⟩ := hinv
  have hstep : ∀ {u}, LastBranchInFlight u ∨ Hung u →
      ∃ t, step u = .next t ∧ (LastBranchInFlight t ∨ Hung t) := fun h => by
    rcases h with h | h
    · exact h.step
    · obtain ⟨hstep, hhung⟩ := hung_step h
      exact ⟨_, hstep, .inr hhung⟩
  obtain ⟨t, hrun, h | ⟨⟨-, -, hhalt⟩, -⟩⟩ :=
    run_induction hstep k (.inl ⟨hinv, ⟨hn, hr, hh⟩, heos, hstall, hnext⟩)
  · obtain ⟨-, -, hhalt⟩ := h.ticking
    exact ⟨t, hrun, hhalt⟩
  · exact ⟨t, hrun, hhalt⟩

end Sys2Proof.Machine
end

section
/-!
SUPPORT. The base latency (70_reset_and_hazards.md R211): records that wait for nothing and are never
mispredicted flow through the pipeline in groups of N, one latch a tick.
-/

namespace Sys2Proof.Machine

variable {s t : State} {records : List Instr} {n : Nat}

/-! Slots that pass every stage unchanged. -/

/-- A record without sources and without a condition-code read collides with no producer
(43_hazard_detector.md R131). -/
theorem collide_of_independentRecord {c : Slot} (p : Slot)
    (h : independentRecord c.record = true) : collide c p = false := by
  simp only [independentRecord, Bool.and_eq_true, Bool.not_eq_true'] at h
  obtain ⟨⟨⟨h1, h2⟩, hcc⟩, -⟩ := h
  simp [collide, ccOverlap, src1Operand, src2Operand, operand, sameRegister, h1, h2, hcc]

theorem not_isCbr_of_independentRecord {i : Instr} (h : independentRecord i = true) :
    isCbr i = false := by
  simp only [independentRecord, Bool.and_eq_true, Bool.not_eq_true'] at h
  obtain ⟨-, hcbr⟩ := h
  exact hcbr

/-- An unstalled slot that holds an independent record, or a bubble. -/
structure FlowingSlot (x : Slot) : Prop where
  stall : x.stall = false
  independent : independentRecord x.record = true
  empty : x.valid = false → x = bubble

theorem flowingSlot_bubble : FlowingSlot bubble := ⟨rfl, rfl, fun _ => rfl⟩

theorem FlowingSlot.executeSlot_eq {x : Slot} (h : FlowingSlot x) : executeSlot x = x := by
  cases hv : x.valid with
  | true => exact executeSlot_of_released hv h.stall
  | false =>
    rw [h.empty hv]
    rfl

theorem map_executeSlot_of_flowing {latch : List Slot} (h : ∀ x ∈ latch, FlowingSlot x) :
    latch.map executeSlot = latch :=
  (List.map_congr_left fun x hx => (h x hx).executeSlot_eq).trans (List.map_id' latch)

/-- Decode stalls no lane of independent records (43_hazard_detector.md R146). -/
theorem decodeLatch_of_flowing {fe : List Slot} (cfg : Config) (ex ma : List Slot)
    (h : ∀ x ∈ fe, FlowingSlot x) : decodeLatch cfg (decodeCopy fe) ex ma = fe := by
  have hcopy : decodeCopy fe = fe :=
    (List.map_congr_left fun x hx => clearStall_of_stall_eq_false (h x hx).stall).trans
      (List.map_id' fe)
  have hnone : ∀ c ∈ fe, stallOf cfg fe ex ma c = false :=
    independentInstructionsNeverStall cfg fe ex ma fun c hc p _ =>
      collide_of_independentRecord p (h c hc).independent
  rw [hcopy, decodeLatch]
  refine (List.map_congr_left fun c hc => ?_).trans (List.map_id' fe)
  rw [hnone c hc, ← (h c hc).stall]

theorem map_stall_of_flowing {latch : List Slot} (h : ∀ x ∈ latch, FlowingSlot x) :
    (latch.map fun d => d.stall) = List.replicate latch.length false :=
  List.map_eq_replicate_iff.mpr fun x hx => (h x hx).stall

/-! What the latches hold. -/

/-- The slot of the record at a position of the trace, a bubble behind its end. -/
def flowSlot (records : List Instr) (p : Nat) : Slot :=
  match records[p]? with
  | some i => { record := i, opId := p + 1, valid := true, stall := false, isMispred := false }
  | none => bubble

/-- The latch of `n` lanes that tick `j` fetched; before tick 1 it is empty. -/
def flowLatch (records : List Instr) (n : Nat) : Nat → List Slot
  | 0 => List.replicate n bubble
  | j + 1 => (List.range n).map fun l => flowSlot records (j * n + l)

theorem flowSlot_of_some {p : Nat} {i : Instr} (h : records[p]? = some i) :
    flowSlot records p =
      { record := i, opId := p + 1, valid := true, stall := false, isMispred := false } := by
  rw [flowSlot, h]

theorem flowSlot_of_none {p : Nat} (h : records[p]? = none) : flowSlot records p = bubble := by
  rw [flowSlot, h]

theorem flowingSlot_flowSlot (hrec : ∀ i ∈ records, independentRecord i = true) (p : Nat) :
    FlowingSlot (flowSlot records p) := by
  cases hp : records[p]? with
  | some i =>
    rw [flowSlot_of_some hp]
    exact ⟨rfl, hrec i (List.mem_of_getElem? hp), fun hv => nomatch hv⟩
  | none =>
    rw [flowSlot_of_none hp]
    exact flowingSlot_bubble

theorem flowingSlot_of_mem_flowLatch (hrec : ∀ i ∈ records, independentRecord i = true) {j : Nat}
    {x : Slot} (hx : x ∈ flowLatch records n j) : FlowingSlot x := by
  cases j with
  | zero =>
    rw [List.eq_of_mem_replicate hx]
    exact flowingSlot_bubble
  | succ j =>
    obtain ⟨l, -, rfl⟩ := List.mem_map.mp hx
    exact flowingSlot_flowSlot hrec _

theorem length_flowLatch (records : List Instr) (n j : Nat) :
    (flowLatch records n j).length = n := by
  cases j <;> simp [flowLatch]

/-- The instructions fetched up to tick `j` have `op_id`s of at most `N` times `j`. -/
theorem opId_le_of_mem_flowLatch {j : Nat} {x : Slot} (hx : x ∈ flowLatch records n j)
    (hv : x.valid = true) : x.opId ≤ j * n := by
  cases j with
  | zero =>
    rw [List.eq_of_mem_replicate hx] at hv
    cases hv
  | succ j =>
    obtain ⟨l, hl, rfl⟩ := List.mem_map.mp hx
    have hlt := List.mem_range.mp hl
    cases hp : records[j * n + l]? with
    | some i =>
      rw [flowSlot_of_some hp, Nat.succ_mul]
      show j * n + l + 1 ≤ j * n + n
      omega
    | none =>
      rw [flowSlot_of_none hp] at hv
      cases hv

/-- The last record stands in the latch that the last fetching tick filled. -/
theorem exists_last_mem_flowLatch {q : Nat} (hlow : q * n < records.length)
    (hhigh : records.length ≤ (q + 1) * n) :
    ∃ x ∈ flowLatch records n (q + 1), x.valid = true ∧ x.opId = records.length := by
  rw [Nat.succ_mul] at hhigh
  have hpos : q * n + (records.length - 1 - q * n) = records.length - 1 := by omega
  have hsome : records[records.length - 1]? = some (records[records.length - 1]'(by omega)) :=
    List.getElem?_eq_getElem _
  refine ⟨flowSlot records (records.length - 1), ?_, ?_⟩
  · exact List.mem_map.mpr
      ⟨records.length - 1 - q * n, List.mem_range.mpr (by omega), by rw [hpos]⟩
  · rw [flowSlot_of_some hsome]
    exact ⟨rfl, Nat.sub_add_cancel (by omega)⟩

/-! Fetch. -/

theorem responseAt_recordTrace_of_some {p : Nat} {i : Instr} (h : records[p]? = some i) :
    responseAt (recordTrace records) p = .record i := by
  simp [responseAt, recordTrace, h, decodeResponse_encodeResponse]

theorem responseAt_recordTrace_of_none {p : Nat} (h : records[p]? = none) :
    responseAt (recordTrace records) p = .endOfStream := by
  simp [responseAt, recordTrace, h]

/-- The chain after Fetch has gone through `p` lanes of a run that holds none: it has pulled a record in
each, up to the end of the trace, which the first lane behind the records has met. -/
structure FlowChain (records : List Instr) (p : Nat) (c : ChainState) : Prop where
  fetchStall : c.fetchStall = false
  tsPos : c.tsPos = min records.length p
  opidCtr : c.opidCtr = min records.length p
  eosSeen : c.eosSeen = decide (records.length < p)

theorem chainRecord_of_not_isCbr {i : Instr} (policy : Policy) (c : ChainState)
    (h : isCbr i = false) :
    chainRecord policy i c =
      ({ record := i, opId := c.opidCtr + 1, valid := true, stall := false, isMispred := false },
        { c with opidCtr := c.opidCtr + 1, tsPos := c.tsPos + 1 }) := by
  simp [chainRecord, h]

/-- One lane takes the record of its position. -/
theorem FlowChain.lane {p : Nat} {c : ChainState} (h : FlowChain records p c)
    (hrec : ∀ i ∈ records, independentRecord i = true) (policy : Policy) (x : Slot) :
    ∃ d, chainLane policy (recordTrace records) x false c = (flowSlot records p, d) ∧
      FlowChain records (p + 1) d := by
  cases hp : records[p]? with
  | some i =>
    obtain ⟨hlt, -⟩ := List.getElem?_eq_some_iff.mp hp
    have hmin : min records.length p = p := min_eq_right hlt.le
    have hopen : c.eosSeen = false := by
      rw [h.eosSeen]
      exact decide_eq_false (by omega)
    have hresp : responseAt (recordTrace records) c.tsPos = .record i := by
      rw [h.tsPos, hmin]
      exact responseAt_recordTrace_of_some hp
    have hcbr := not_isCbr_of_independentRecord (hrec i (List.mem_of_getElem? hp))
    refine ⟨{ c with opidCtr := c.opidCtr + 1, tsPos := c.tsPos + 1 }, ?_, h.fetchStall, ?_, ?_, ?_⟩
    · rw [chainLane_of_record h.fetchStall hopen hresp, chainRecord_of_not_isCbr policy c hcbr,
        flowSlot_of_some hp, h.opidCtr, hmin]
    · show c.tsPos + 1 = _
      rw [h.tsPos]
      omega
    · show c.opidCtr + 1 = _
      rw [h.opidCtr]
      omega
    · rw [hopen]
      exact (decide_eq_false (by omega)).symm
  | none =>
    have hge := List.getElem?_eq_none_iff.mp hp
    have hmin : min records.length (p + 1) = min records.length p := by omega
    have hended : decide (records.length < p + 1) = true := decide_eq_true (by omega)
    rw [flowSlot_of_none hp]
    cases he : c.eosSeen with
    | true =>
      exact ⟨c, by simp [chainLane, he], h.fetchStall, by rw [hmin, h.tsPos], by rw [hmin, h.opidCtr],
        by rw [he, hended]⟩
    | false =>
      have hresp : responseAt (recordTrace records) c.tsPos = .endOfStream := by
        rw [h.tsPos, min_eq_left hge]
        exact responseAt_recordTrace_of_none (List.getElem?_eq_none_iff.mpr le_rfl)
      exact ⟨{ c with eosSeen := true, haltId := c.opidCtr, haltIdValid := true },
        by simp [chainLane, he, h.fetchStall, hresp], h.fetchStall, by rw [hmin, ← h.tsPos],
        by rw [hmin, ← h.opidCtr], hended.symm⟩

/-- The lanes of a tick take the records of as many positions. -/
theorem FlowChain.lanes (hrec : ∀ i ∈ records, independentRecord i = true) (policy : Policy) :
    ∀ (xs : List Slot) {p : Nat} {c : ChainState}, FlowChain records p c →
      ∃ d, fetchChain policy (recordTrace records) xs (List.replicate xs.length false) c =
          ((List.range xs.length).map fun l => flowSlot records (p + l), d) ∧
        FlowChain records (p + xs.length) d
  | [], p, c, h => ⟨c, rfl, h⟩
  | x :: xs, p, c, h => by
    obtain ⟨u, hlane, hu⟩ := h.lane hrec policy x
    obtain ⟨d, hrest, hd⟩ := FlowChain.lanes hrec policy xs hu
    have hshift : p + 1 + xs.length = p + (x :: xs).length := by
      rw [List.length_cons]
      omega
    refine ⟨d, ?_, hshift ▸ hd⟩
    simp only [List.length_cons, List.replicate_succ, fetchChain, hlane, hrest,
      List.range_succ_eq_map, List.map_cons, List.map_map, Nat.add_zero]
    simp only [Function.comp_def, Nat.succ_eq_add_one, Nat.add_assoc, Nat.add_comm 1]

/-! The run. -/

/-- The state after tick `k` of a run over independent records: each latch holds what Fetch held as many
ticks ago. -/
structure Flow (records : List Instr) (n k : Nat) (s : State) : Prop where
  inv : PipelineInv s
  width : s.cfg.n = n
  responses : s.trace = recordTrace records
  statCycles : s.statCycles = k
  chain : FlowChain records (k * n) s.chain
  latchFe : s.latchFe = flowLatch records n k
  latchId : s.latchId = flowLatch records n (k - 1)
  latchEx : s.latchEx = flowLatch records n (k - 2)
  latchMa : s.latchMa = flowLatch records n (k - 3)

theorem flow_resetWith {cfg : Config} (records : List Instr) (hn : 0 < cfg.n) :
    Flow records cfg.n 0 (State.resetWith cfg (recordTrace records)) where
  inv := pipelineInv_resetWith _ hn
  width := rfl
  responses := rfl
  statCycles := rfl
  chain := by constructor <;> simp [State.chain, State.resetWith]
  latchFe := rfl
  latchId := rfl
  latchEx := rfl
  latchMa := rfl

theorem chainStart_eq_chain (h : s.fetchStall = false) : s.chainStart = s.chain := by
  simp [State.chainStart, State.chain, h]

section
variable {k : Nat} (h : Flow records n k s)
include h

theorem Flow.length_latchFe : s.latchFe.length = s.cfg.n := by
  rw [h.latchFe, length_flowLatch, h.width]

section
variable (hrec : ∀ i ∈ records, independentRecord i = true)
include hrec

theorem Flow.newId : s.newId = s.latchFe :=
  decodeLatch_of_flowing s.cfg _ _ fun _ hx => flowingSlot_of_mem_flowLatch hrec (h.latchFe ▸ hx)

/-- Fetch fills its latch with the next records. -/
theorem Flow.newLanes :
    ∃ d, s.newLanes = (flowLatch records n (k + 1), d) ∧ FlowChain records ((k + 1) * n) d := by
  obtain ⟨d, hlanes, hd⟩ := FlowChain.lanes hrec s.cfg.policy s.latchFe h.chain
  have hlen : s.latchFe.length = n := h.length_latchFe.trans h.width
  refine ⟨d, ?_, ?_⟩
  · rw [State.newLanes, h.newId hrec, chainStart_eq_chain h.chain.fetchStall, h.responses,
      map_stall_of_flowing fun _ hx => flowingSlot_of_mem_flowLatch hrec (h.latchFe ▸ hx), hlanes,
      hlen]
    rfl
  · rwa [hlen, ← Nat.succ_mul] at hd

/-- A tick moves every group one latch on. -/
theorem Flow.tick (hticking : Ticking s) : Flow records n (k + 1) s.rtlTick := by
  obtain ⟨d, hlanes, hd⟩ := h.newLanes hrec
  obtain ⟨-, -, hh⟩ := hticking
  constructor
  case inv => exact pipelineInv_tick h.inv hh (tick_eq_rtlTick h.length_latchFe)
  case width => exact h.width
  case responses => exact h.responses
  case statCycles => rw [s.rtlTick_statCycles, h.statCycles]
  case chain => rwa [s.rtlTick_chain, hlanes]
  case latchFe => rw [s.rtlTick_latchFe, hlanes]
  case latchId => rw [s.rtlTick_latchId, h.newId hrec, h.latchFe, Nat.add_sub_cancel]
  case latchEx =>
    rw [s.rtlTick_latchEx, h.latchId,
      map_executeSlot_of_flowing fun _ hx => flowingSlot_of_mem_flowLatch hrec hx,
      Nat.add_sub_add_right]
  case latchMa => rw [s.rtlTick_latchMa, h.latchEx, Nat.add_sub_add_right]

end

theorem Flow.eosSeen_iff : s.eosSeen = true ↔ records.length < k * n := by
  have heos : s.eosSeen = decide (records.length < k * n) := h.chain.eosSeen
  rw [heos, decide_eq_true_eq]

theorem Flow.opidCtr (hall : records.length ≤ k * n) : s.opidCtr = records.length :=
  h.chain.opidCtr.trans (min_eq_left hall)

/-- Once the end is recorded, the halt id is the number of records. -/
theorem Flow.haltId (hend : records.length < k * n) :
    s.haltIdValid = true ∧ s.haltId = records.length := by
  obtain ⟨-, hcore⟩ := pipelineInv_iff.mp h.inv
  obtain ⟨hmark, hlast, -⟩ := hcore.ending
  have heos := h.eosSeen_iff.mpr hend
  exact ⟨hmark.trans heos, (hlast heos).trans (h.opidCtr hend.le)⟩

/-- No tick halts before the last group has reached Memory. -/
theorem Flow.not_halts (hticking : Ticking s) (hlast : (k - 3) * n < records.length) :
    s.rtlTick.halt = false := by
  obtain ⟨-, -, hh⟩ := hticking
  rw [s.rtlTick_halt, hh, Bool.false_or]
  refine Bool.eq_false_iff.mpr fun hhalt => ?_
  obtain ⟨hvalid, hretires⟩ := Bool.and_eq_true_iff.mp hhalt
  obtain ⟨x, hx, hv, hid⟩ := opIdRetires_iff.mp hretires
  obtain ⟨-, hcore⟩ := pipelineInv_iff.mp h.inv
  obtain ⟨hmark, -⟩ := hcore.ending
  obtain ⟨-, hhaltId⟩ := h.haltId (h.eosSeen_iff.mp (hmark ▸ hvalid))
  have hle := opId_le_of_mem_flowLatch (h.latchMa ▸ hx) hv
  omega

end

/-- The tick that finds the last group in Memory halts the block (42_pipeline_tick.md R114). -/
theorem Flow.halts {q : Nat} (h : Flow records n (q + 4) s) (hlow : q * n < records.length)
    (hhigh : records.length ≤ (q + 1) * n) : s.rtlTick.halt = true := by
  have hend : records.length < (q + 4) * n := by
    rw [Nat.add_mul] at hhigh ⊢
    omega
  obtain ⟨hvalid, hid⟩ := h.haltId hend
  obtain ⟨x, hx, hv, hxid⟩ := exists_last_mem_flowLatch hlow hhigh
  have hretires : opIdRetires s.latchMa s.haltId = true :=
    opIdRetires_iff.mpr ⟨x, h.latchMa ▸ hx, hv, hxid.trans hid.symm⟩
  rw [s.rtlTick_halt, hvalid, hretires, Bool.and_true, Bool.or_true]

/-- A run of one more step is the run, then the step. -/
theorem run_succ_of_run : ∀ {k : Nat} {s u : State}, Sys2Proof.core.run k s = .next u →
    step u = .next t → Sys2Proof.core.run (k + 1) s = .next t
  | 0, s, u, h, hstep => by
    cases h
    exact run_succ_of_step 0 hstep
  | k + 1, s, u, h, hstep => by
    cases hs : step s with
    | next v =>
      rw [run_succ_of_step k hs] at h
      rw [run_succ_of_step (k + 1) hs]
      exact run_succ_of_run h hstep
    | fault r => exact nomatch r
    | refused r =>
      have hcore : Sys2Proof.core.step s = .refused r := hs
      simp [Host.Core.run, hcore] at h

/-- Up to the tick that brings the last group to Memory the block runs on. -/
theorem flow_run {cfg : Config} (hn : 0 < cfg.n)
    (hrec : ∀ i ∈ records, independentRecord i = true) :
    ∀ {k : Nat}, (k - 4) * cfg.n < records.length →
      ∃ s, Sys2Proof.core.run k (State.resetWith cfg (recordTrace records)) = .next s ∧
        Flow records cfg.n k s ∧ Ticking s
  | 0, _ => ⟨_, rfl, flow_resetWith records hn, resetWith_ticking _ hn⟩
  | k + 1, hlast => by
    rw [Nat.add_sub_add_right] at hlast
    have hless : (k - 4) * cfg.n ≤ (k - 3) * cfg.n := Nat.mul_le_mul_right _ (by omega)
    obtain ⟨s, hrun, hflow, hticking⟩ := flow_run hn hrec (k := k) (by omega)
    have hstep := tickIsTheRegisterTransferForm s hticking hflow.length_latchFe
    have hhalt := hflow.not_halts hticking hlast
    have ⟨hns, hr, _⟩ := hticking
    exact ⟨s.rtlTick, run_succ_of_run hrun hstep, hflow.tick hrec hticking, hns, hr, hhalt⟩

/-- `K` records in groups of `n` make `q` full groups and one last group, full or not. -/
theorem exists_groups {K n : Nat} (hK : 0 < K) (hn : 0 < n) :
    ∃ q, (K + n - 1) / n = q + 1 ∧ q * n < K ∧ K ≤ (q + 1) * n := by
  have hsplit : K + n - 1 = K - 1 + n := by omega
  have hlow := Nat.div_mul_le_self (K - 1) n
  have hhigh := Nat.lt_mul_of_div_lt (Nat.lt_succ_self ((K - 1) / n)) hn
  refine ⟨(K - 1) / n, by rw [hsplit, Nat.add_div_right _ hn], by omega, ?_⟩
  rw [Nat.succ_eq_add_one] at hhigh
  omega

/-- Settles O59: the last group is fetched in tick `ceil(K / N)`, stands in Memory three ticks later, and
retires in the tick after. -/
theorem independentRecordsTakeTheBaseLatency : Obligations.IndependentRecordsTakeTheBaseLatency := by
  intro cfg records hn hne hrec ticks
  obtain ⟨q, hgroups, hlow, hhigh⟩ := exists_groups (List.length_pos_iff.mpr hne) hn
  have hticks : ticks = q + 4 + 1 := congrArg (· + 4) hgroups
  obtain ⟨s, hrun, hflow, hticking⟩ := flow_run hn hrec (k := q + 4) hlow
  have hstep := tickIsTheRegisterTransferForm s hticking hflow.length_latchFe
  have hnext := hflow.tick hrec hticking
  have hhalt := hflow.halts hlow hhigh
  obtain ⟨-, -, hrunning⟩ := hticking
  have hretired : s.rtlTick.statRetired = records.length := by
    obtain ⟨-, hcore⟩ := pipelineInv_iff.mp hnext.inv
    obtain ⟨hempty, -⟩ := hcore.halted hhalt
    obtain ⟨hsum, -⟩ := hcore.counts
    rw [hempty, List.length_nil, Nat.add_zero] at hsum
    exact hsum.trans (hnext.opidCtr (hhigh.trans (Nat.mul_le_mul_right _ (by omega))))
  rw [hticks]
  exact ⟨s, s.rtlTick, hrun, hrunning, run_succ_of_run hrun hstep, hhalt, hnext.statCycles, hretired⟩

end Sys2Proof.Machine
end
